-- ==== Sys2Proof/Word.lean ====
section
/-! DEFINITION. Word.lean: the index types and words of the JC8 (chapters 1, 2, 8 and 10). -/

namespace Sys2Proof

/-- A backplane slot, 0 to 7 (Terms: slot). -/
abbrev SlotId := Fin 8

/-- A window number, 0 to 31 (R1). -/
abbrev WindowId := Fin 32

/-- A claim record number, 0 to 127 (R21). -/
abbrev RecordId := Fin 128

/-- A hub target, 0 to 5 (R1). -/
abbrev TargetId := Fin 6

/-- A window size code, 0 to 14 (R2). -/
abbrev SizeCode := Fin 15

/-- A 32-bit backplane word or address. -/
abbrev Word := BitVec 32

/-- A count of ticks, 0 to 65535 (R1, R21, R127). -/
abbrev Ticks := BitVec 16

/-- The eight slots in slot order. -/
def allSlots : List SlotId := List.finRange 8

/-- The 32 windows in window order. -/
def allWindows : List WindowId := List.finRange 32

/-- The 128 claim records in record order. -/
def allRecords : List RecordId := List.finRange 128

end Sys2Proof
end

