-- ==== Sys2Proof/Config.lean ====
section
/-! DEFINITION. Config.lean: the fixed numbers of the part. The JC8 leaves nothing to the implementation, so no
constant here is free. -/

namespace Sys2Proof

/-- Lowest address of the shared space, 4000_0000h (R7, R111). -/
def Config.sharedLow : Nat := 0x40000000

/-- First address above the shared space, 8000_0000h (R2, R7). -/
def Config.sharedEnd : Nat := 0x80000000

/-- Lowest address of the control block, 0000_4A00h (chapter 10). -/
def Config.controlLow : Nat := 0x4A00

/-- First address above the control block's 64 bytes (chapter 10). -/
def Config.controlEnd : Nat := 0x4A40

/-- Entries a command FIFO or a response FIFO holds (R160, R163). -/
def Config.fifoDepth : Nat := 4

/-- REFCLK cycles in one tick period: 100 µs, 1 ms, 10 ms or 100 ms at 25 MHz (R79). -/
def Config.tickPeriod (select : Fin 4) : Nat := 2500 * 10 ^ select.val

/-- Bytes a window of a size code covers: 4 KiB × 2^code (R2). -/
def Config.windowSize (code : SizeCode) : Nat := 4096 * 2 ^ code.val

end Sys2Proof
end

