-- ==== Sys2Proof/Syntax.lean ====
section
/-! DEFINITION. Syntax.lean: the steps of the JC8, one constructor per row of spec/opcode_table.json.

A command row (JOIN to HAND_MASTER, UNKNOWN_OPCODE) is a TAKE of the Command Engine (R162): slot, tag and parameters
stand in the head entry of the command FIFO the arbiter chooses (R161), so the row has no operand of its own. A
software command enters by CONTROL_BLOCK_WRITE to PARAM0, PARAM1, PARAM2 and COMMAND. -/

namespace Sys2Proof

/-- The kind of a backplane cycle (R111). -/
inductive AccessKind where
  | read
  | write
  deriving DecidableEq, Repr

/-- The steps of the part, each whole and indivisible (95_what_each_step_holds). -/
inductive Instr where
  /-- JOIN (R131). -/
  | join
  /-- LEAVE (R132). -/
  | leave
  /-- CLAIM (R39 to R45). -/
  | claim
  /-- WITHDRAW (R54 to R56). -/
  | withdraw
  /-- RELEASE (R63). -/
  | release
  /-- RENEW (R66). -/
  | renew
  /-- UPGRADE (R68, R69). -/
  | upgrade
  /-- DOWNGRADE (R71, R72). -/
  | downgrade
  /-- TRANSFER (R73, R74). -/
  | transfer
  /-- QUERY_WINDOW (R17, R167). -/
  | queryWindow
  /-- QUERY_SLOT (R143, R168). -/
  | querySlot
  /-- TAKE_MASTER (R140). -/
  | takeMaster
  /-- DEFINE (R6 to R9). -/
  | define
  /-- UNDEFINE (R10). -/
  | undefine
  /-- OPEN (R11). -/
  | openWindow
  /-- CLOSE (R12, R102). -/
  | closeWindow
  /-- RECALL (R94 to R97). -/
  | recallWindow
  /-- EVICT (R133). -/
  | evict
  /-- SET_QUOTA (R138). -/
  | setQuota
  /-- SET_ELIGIBLE (R141). -/
  | setEligible
  /-- SET_TIMING (R139). -/
  | setTiming
  /-- HAND_MASTER (R141). -/
  | handMaster
  /-- UNKNOWN_OPCODE: a taken entry whose opcode is not in the catalogue (R165). -/
  | unknownOpcode
  /-- RESP_POP: slot `n` writes RESP_POP (R163). -/
  | respPop (n : SlotId) (value : Word)
  /-- NOTICE0_READ: slot `n` reads NOTICE0 (R151). -/
  | notice0Read (n : SlotId)
  /-- NOTICE_POP: slot `n` writes NOTICE_POP (R152). -/
  | noticePop (n : SlotId) (value : Word)
  /-- ATTN_EN_WRITE: slot `n` writes ATTN_EN (R154). -/
  | attnEnWrite (n : SlotId) (value : Word)
  /-- CONTROL_BLOCK_WRITE: slot `n` writes `value` at `addr`, `width` bits wide (R157). -/
  | controlBlockWrite (n : SlotId) (addr : Word) (width : Nat) (value : Word)
  /-- CYCLE_CHECK: slot `n` starts a shared-space cycle at `addr` (R111, R112). -/
  | cycleCheck (n : SlotId) (addr : Word) (kind : AccessKind) (width : Nat)
  /-- CYCLE_END: the initiator ends the cycle's framing (R111). -/
  | cycleEnd
  /-- TICK: the divider completes a period (R79). -/
  | tick
  /-- CLAIM_TABLE_TICK: a tick is taken at the Claim Table (R83). -/
  | claimTableTick
  /-- SLOT_TABLE_TICK: a tick is taken at the Slot Table (R134). -/
  | slotTableTick
  /-- WAIT_TIMEOUT: the last tick of WAITING record `r` (R84). -/
  | waitTimeout (r : RecordId)
  /-- LEASE_EXPIRY: the last lease tick of HELD record `r` (R85). -/
  | leaseExpiry (r : RecordId)
  /-- GRACE_EXPIRY: the last grace tick of LAPSING record `r` (R86). -/
  | graceExpiry (r : RecordId)
  /-- RECALL_LIMIT_EXPIRY: the last recall tick of RECALLED record `r` (R87). -/
  | recallLimitExpiry (r : RecordId)
  /-- SILENCE_EXPIRY: the last silence tick of ACTIVE slot `n` (R134). -/
  | silenceExpiry (n : SlotId)
  /-- PRES_RISE: PRES[n] rises (R129). -/
  | presRise (n : SlotId)
  /-- PRES_FALL: PRES[n] falls (R129). -/
  | presFall (n : SlotId)
  /-- SLOT_RESET: SRST[n] is asserted (R130). -/
  | slotReset (n : SlotId)
  /-- BACKPLANE_RESET: BRST# is asserted (R145). -/
  | backplaneReset
  /-- POWER_ON_RESET: POR# is deasserted with the ELIG straps at `elig` (R144). -/
  | powerOnReset (elig : BitVec 8)
  /-- CONTROL_BLOCK_READ: slot `n` reads at `addr`, `width` bits wide (R157, R158). -/
  | controlBlockRead (n : SlotId) (addr : Word) (width : Nat)
  /-- POR_ASSERTED: POR# is asserted (R144). -/
  | porAsserted
  deriving DecidableEq, Repr

end Sys2Proof
end

