-- ==== Sys2Proof/Decode.lean ====
section
/-! DEFINITION. Decode.lean: the table's words. spec/opcode_table.json gives bits to none of its 45 rows, so no word
spells a command. The codes by which software names a command in COMMAND bits 7:0 (10.7) are read at the take, in
Machine/Operands.lean. -/

namespace Sys2Proof

/-- The command that a word spells by the table's bits: none, since no row of the table gives bits. -/
def decodeTableWord (_nbits _w : Nat) : Option Instr := none

end Sys2Proof
end

