-- ==== Sys2Proof/WellFormed.lean ====
section
/-! DEFINITION. WellFormed.lean: the steps the backplane can present. A shared-space cycle lies in the shared space, a
control-block cycle in the 64-byte block, and a cycle has a width. -/

namespace Sys2Proof

/-- The address lies in the shared space, 4000_0000h to 7FFF_FFFFh (R111). -/
def inSharedSpace (addr : Word) : Bool :=
  decide (Config.sharedLow ≤ addr.toNat) && decide (addr.toNat < Config.sharedEnd)

/-- The address lies in the control block, 0000_4A00h to 0000_4A3Fh (chapter 10). -/
def inControlBlock (addr : Word) : Bool :=
  decide (Config.controlLow ≤ addr.toNat) && decide (addr.toNat < Config.controlEnd)

/-- The step is one that can be presented to the part. -/
def Instr.wellFormed : Instr → Bool
  | .cycleCheck _ addr _ width => inSharedSpace addr && decide (0 < width)
  | .controlBlockWrite _ addr width _ => inControlBlock addr && decide (0 < width)
  | .controlBlockRead _ addr width => inControlBlock addr && decide (0 < width)
  | .join => true
  | .leave => true
  | .claim => true
  | .withdraw => true
  | .release => true
  | .renew => true
  | .upgrade => true
  | .downgrade => true
  | .transfer => true
  | .queryWindow => true
  | .querySlot => true
  | .takeMaster => true
  | .define => true
  | .undefine => true
  | .openWindow => true
  | .closeWindow => true
  | .recallWindow => true
  | .evict => true
  | .setQuota => true
  | .setEligible => true
  | .setTiming => true
  | .handMaster => true
  | .unknownOpcode => true
  | .respPop _ _ => true
  | .notice0Read _ => true
  | .noticePop _ _ => true
  | .attnEnWrite _ _ => true
  | .cycleEnd => true
  | .tick => true
  | .claimTableTick => true
  | .slotTableTick => true
  | .waitTimeout _ => true
  | .leaseExpiry _ => true
  | .graceExpiry _ => true
  | .recallLimitExpiry _ => true
  | .silenceExpiry _ => true
  | .presRise _ => true
  | .presFall _ => true
  | .slotReset _ => true
  | .backplaneReset => true
  | .powerOnReset _ => true
  | .porAsserted => true

end Sys2Proof
end

