-- ==== Sys2Proof/Machine/State.lean ====
section
/-! DEFINITION. Machine/State.lean: every piece of state the JC8 has, as plain data, and the state after power-on reset.

Computed views, not stored twice: the holder set of a window (R26), a record's position (R25), a slot's count of records
in use (R32), and the output pins (R119, R155, R157) are functions of these fields (Machine/Ops.lean, Machine/Flags.lean). -/

namespace Sys2Proof.Machine

/-- Lifecycle state of a window (R1, R4). -/
inductive WindowState where
  | undefined
  | closed
  | opened
  | draining
  deriving DecidableEq, Repr

/-- Share policy (R1). `cleared` is the zero that the field of an UNDEFINED window holds; it names no policy. -/
inductive SharePolicy where
  | cleared
  | exclusiveOnly
  | sharedAllowed
  deriving DecidableEq, Repr

/-- Foreign policy (R1); REFUSE is also the zero of an UNDEFINED window's field. -/
inductive ForeignPolicy where
  | refuse
  | holdoff
  | readThrough
  deriving DecidableEq, Repr

/-- A window record (R1). Its number is its index in the table. -/
structure WindowRecord where
  state : WindowState
  base : Word
  sizeCode : SizeCode
  target : TargetId
  share : SharePolicy
  foreign : ForeignPolicy
  renewOnAccess : Bool
  lease : Ticks
  grace : BitVec 8
  recallLimit : BitVec 8
  deriving DecidableEq, Repr

/-- An UNDEFINED window: every definition field is zero (R1). -/
def WindowRecord.cleared : WindowRecord :=
  { state := .undefined, base := 0, sizeCode := 0, target := 0, share := .cleared, foreign := .refuse,
    renewOnAccess := false, lease := 0, grace := 0, recallLimit := 0 }

/-- Mode of a claim or hold (R21); SHARED is also the zero of a FREE record's field. -/
inductive Mode where
  | shared
  | exclusive
  deriving DecidableEq, Repr

/-- State of a claim record (R22). -/
inductive ClaimPhase where
  | free
  | waiting
  | held
  | lapsing
  | recalled
  deriving DecidableEq, Repr

/-- A claim record (R21). Its number is its index; its position is computed from its window's wait list (R25). -/
structure ClaimRecord where
  phase : ClaimPhase
  slot : SlotId
  window : WindowId
  mode : Mode
  tag : BitVec 8
  counter : Ticks
  beneficiary : Bool
  deriving DecidableEq, Repr

/-- A FREE record: its other fields are zero (R21). -/
def ClaimRecord.cleared : ClaimRecord :=
  { phase := .free, slot := 0, window := 0, mode := .shared, tag := 0, counter := 0, beneficiary := false }

/-- Recall marker of a window (R28). -/
inductive RecallMarker where
  | idle
  | inProgress (beneficiary : Option SlotId)
  deriving DecidableEq, Repr

/-- The claim state the Claim Table keeps for a window beside the records (chapter 2.2): wait list, oldest first
(R25), pending upgrader (R27) and recall marker (R28). The holder set (R26) is computed from the records. -/
structure WindowClaims where
  waitList : List RecordId
  upgrader : Option SlotId
  marker : RecallMarker
  deriving DecidableEq, Repr

/-- The claim state of a window with no records. -/
def WindowClaims.cleared : WindowClaims := { waitList := [], upgrader := none, marker := .idle }

/-- State of a slot (R127). -/
inductive SlotState where
  | absent
  | present
  | active
  deriving DecidableEq, Repr

/-- Exit reason of a slot (R127). -/
inductive ExitReason where
  | none
  | left
  | silent
  | evicted
  | reset
  | removed
  deriving DecidableEq, Repr

/-- A slot record (R127). Its number is its index. -/
structure SlotRecord where
  state : SlotState
  exitReason : ExitReason
  identity : Word
  slotClass : BitVec 8
  quota : Nat
  silence : Ticks
  deriving DecidableEq, Repr

/-- An entry of a command FIFO (R160). -/
structure CommandEntry where
  opcode : BitVec 8
  tag : BitVec 8
  param0 : Word
  param1 : Word
  param2 : Word
  deriving DecidableEq, Repr

/-- Outcome of a command (R165). -/
inductive OutcomeCode where
  | ok
  | queued
  | badOpcode
  | badParam
  | notActive
  | alreadyActive
  | notMaster
  | noWindow
  | windowClosed
  | windowBusy
  | overlap
  | notSharable
  | alreadyHeld
  | alreadyWaiting
  | notHeld
  | notWaiting
  | notExclusive
  | notShared
  | upgradeConflict
  | recallPending
  | recalled
  | noExclusiveWaiter
  | poolEmpty
  | quotaFull
  | quotaBelowUse
  | roleTaken
  | notEligible
  | slotNotActive
  deriving DecidableEq, Repr

/-- A response: the fields of its word 0, and its words 1 and 2 (R163, R165, 10.8). -/
structure Response where
  tag : BitVec 8
  opcode : BitVec 8
  outcome : OutcomeCode
  ext : BitVec 11
  word1 : Word
  word2 : Word
  deriving DecidableEq, Repr

/-- A Slot Port (R151, R154, R159, R160, R163): parameter staging, command and response FIFO (head first), attention
enable and holding word. -/
structure SlotPort where
  param0 : Word
  param1 : Word
  param2 : Word
  commands : List CommandEntry
  responses : List Response
  attnEnable : Bool
  holding : Word
  deriving DecidableEq, Repr

/-- A Slot Port after power-on (R151, R166). -/
def SlotPort.cleared : SlotPort :=
  { param0 := 0, param1 := 0, param2 := 0, commands := [], responses := [], attnEnable := false, holding := 0 }

/-- Subject of a notice (R146). -/
inductive Subject where
  | window (w : WindowId)
  | unmapped
  | slot (n : SlotId)
  | role
  deriving DecidableEq, Repr

/-- Reason of a WITHDRAWN notice (R147). -/
inductive WithdrawReason where
  | timedOut
  | closing
  deriving DecidableEq, Repr

/-- Cause of a VIOLATION notice (R120). -/
inductive ViolationCause where
  | slotNotActive
  | unmapped
  | windowNotOpen
  | sharedWrite
  | notHolder
  deriving DecidableEq, Repr

/-- Detail of a ROLE notice (R147). -/
inductive RoleChange where
  | gained
  | lost
  | vacant
  deriving DecidableEq, Repr

/-- Kind of a notice with its detail and tag (R146, R147). -/
inductive NoticeBody where
  | granted (mode : Mode) (tag : BitVec 8)
  | lapseWarning (grace : BitVec 8)
  | lapsed
  | recalled (limit : BitVec 8) (upgradeCancelled : Bool)
  | forced
  | withdrawn (reason : WithdrawReason)
  | violation (access : AccessKind) (cause : ViolationCause)
  | windowClosed
  | slotChange (state : SlotState) (reason : ExitReason)
  | exited (reason : ExitReason)
  | role (change : RoleChange)
  deriving DecidableEq, Repr

/-- A notice (R146). -/
structure Notice where
  subject : Subject
  body : NoticeBody
  folded : Bool
  deriving DecidableEq, Repr

/-- The decision the Cycle Checker holds for the cycle in hand (R111, R112). -/
inductive Decision where
  | pass (target : TargetId)
  | refuse
  | holdOff
  deriving DecidableEq, Repr

/-- The answer standing on the backplane to the control-block cycle in progress (R157): none, a normal termination with
the data of a read (0 for a write), or an error termination. -/
inductive PortAnswer where
  | idle
  | accepted (data : Word)
  | refused
  deriving DecidableEq, Repr

/-- Why a step can stop with a fault. The JC8 never stops: every happening has an effect the spec gives, so there is
no fault. -/
inductive Fault where
  deriving DecidableEq, Repr

/-- Why a step is refused. -/
inductive Refusal where
  /-- Raised by exec's arm of a command whose meaning is not written; safe, since nothing can be proved of its effect. No
  arm of this model raises it. -/
  | notModelled (mnemonic : String)
  deriving DecidableEq, Repr

/-- The whole state of the JC8, and the queue of commands that wait to be run. -/
structure State where
  /-- Window Table (R1). -/
  windows : Vector WindowRecord 32
  /-- Claim Table: the records (R21). -/
  records : Vector ClaimRecord 128
  /-- Claim Table: the claim state of each window (chapter 2.2). -/
  claims : Vector WindowClaims 32
  /-- Slot Table: the slot records (R127). -/
  slots : Vector SlotRecord 8
  /-- Slot Table: the master role, vacant or a slot (R128). -/
  master : Option SlotId
  /-- Slot Table: the eligible set, bit n for slot n (R128). -/
  eligible : BitVec 8
  /-- Slot Table: the silence limit (R128). -/
  silenceLimit : Ticks
  /-- Tick Generator: the tick select (R79). -/
  tickSelect : Fin 4
  /-- Tick Generator: REFCLK cycles counted in the current period (R79). -/
  divider : Nat
  /-- Ticks issued and not yet taken by the Claim Table (R82). -/
  claimTicksDue : Nat
  /-- Ticks issued and not yet taken by the Slot Table (R82). -/
  slotTicksDue : Nat
  /-- Slot Ports (chapter 10). -/
  ports : Vector SlotPort 8
  /-- Notice Queues, head first (R146). -/
  notices : Vector (List Notice) 8
  /-- Command Engine: the round-robin pointer (R161). -/
  pointer : SlotId
  /-- Cycle Checker: the cycle in hand (R111). -/
  inHand : Option Decision
  /-- The answer to the control-block cycle in progress (R157). -/
  portAnswer : PortAnswer
  /-- Levels of the presence lines PRES[7:0] (R129, R144). -/
  presLines : BitVec 8
  /-- POR# is asserted (R144). -/
  porAsserted : Bool
  /-- The model's own queue of commands that wait, first in, first out. -/
  pending : List Instr
  deriving DecidableEq, Repr

/-- A slot record after power-on, by the level of its presence line (R144). -/
def SlotRecord.powerOn (present : Bool) : SlotRecord :=
  { state := if present then .present else .absent, exitReason := .none, identity := 0, slotClass := 0,
    quota := 16, silence := 0 }

/-- The state once POR# is deasserted, by the levels of the presence lines and of the eligibility straps (R18, R38,
R81, R126, R144, R151, R156, R166). -/
def State.powerOn (pres elig : BitVec 8) : State :=
  { windows := Vector.replicate 32 WindowRecord.cleared
    records := Vector.replicate 128 ClaimRecord.cleared
    claims := Vector.replicate 32 WindowClaims.cleared
    slots := Vector.ofFn fun n => SlotRecord.powerOn (pres.getLsbD n.val)
    master := none
    eligible := elig
    silenceLimit := 0
    tickSelect := 1
    divider := 0
    claimTicksDue := 0
    slotTicksDue := 0
    ports := Vector.replicate 8 SlotPort.cleared
    notices := Vector.replicate 8 []
    pointer := 7
    inHand := none
    portAnswer := .idle
    presLines := pres
    porAsserted := false
    pending := [] }

/-- The machine right after power-on reset, with every presence line and every eligibility strap low (DESIGN CHOICE,
log entry 1: the levels come from outside the part). -/
def State.reset : State := State.powerOn 0 0

end Sys2Proof.Machine
end

