-- ==== Sys2Proof/Machine/Ops.lean ====
section
/-! DEFINITION. Machine/Ops.lean: reads and updates of the tables, and the shared procedures of chapters 2, 3, 8 and 9:
posting a notice, retiring a record, the grant pass, the follow-ups of a retirement, and exit processing. -/

namespace Sys2Proof.Machine

/-! ### Reads -/

/-- The record of window `w` (R1). -/
def State.window (s : State) (w : WindowId) : WindowRecord := s.windows[w]

/-- Claim record `r` (R21). -/
def State.record (s : State) (r : RecordId) : ClaimRecord := s.records[r]

/-- The claim state of window `w` (chapter 2.2). -/
def State.claim (s : State) (w : WindowId) : WindowClaims := s.claims[w]

/-- The record of slot `n` (R127). -/
def State.slot (s : State) (n : SlotId) : SlotRecord := s.slots[n]

/-- The Slot Port of slot `n`. -/
def State.port (s : State) (n : SlotId) : SlotPort := s.ports[n]

/-- The notice queue of slot `n`, head first (R146). -/
def State.queue (s : State) (n : SlotId) : List Notice := s.notices[n]

/-! ### Updates -/

/-- Write the record of window `w`. -/
def State.setWindow (s : State) (w : WindowId) (x : WindowRecord) : State :=
  { s with windows := s.windows.set w x }

/-- Write claim record `r`. -/
def State.setRecord (s : State) (r : RecordId) (x : ClaimRecord) : State :=
  { s with records := s.records.set r x }

/-- Write the claim state of window `w`. -/
def State.setClaim (s : State) (w : WindowId) (x : WindowClaims) : State :=
  { s with claims := s.claims.set w x }

/-- Write the record of slot `n`. -/
def State.setSlot (s : State) (n : SlotId) (x : SlotRecord) : State :=
  { s with slots := s.slots.set n x }

/-- Write the Slot Port of slot `n`. -/
def State.setPort (s : State) (n : SlotId) (x : SlotPort) : State :=
  { s with ports := s.ports.set n x }

/-- Write the notice queue of slot `n`. -/
def State.setQueue (s : State) (n : SlotId) (x : List Notice) : State :=
  { s with notices := s.notices.set n x }

/-- Write the master role. -/
def State.setMaster (s : State) (m : Option SlotId) : State := { s with master := m }

/-! ### Notices (chapter 9) -/

/-- Fold a notice into the standing notice on its subject, or join the tail (R149). -/
def enqueueNotice (subject : Subject) (body : NoticeBody) : List Notice → List Notice
  | [] => [{ subject := subject, body := body, folded := false }]
  | n :: rest =>
    if n.subject = subject then { n with body := body, folded := true } :: rest
    else n :: enqueueNotice subject body rest

/-- Post a notice to slot `n`; a notice to an ABSENT slot is discarded (R148, R149). -/
def State.post (s : State) (n : SlotId) (subject : Subject) (body : NoticeBody) : State :=
  if (s.slot n).state = .absent then s else s.setQueue n (enqueueNotice subject body (s.queue n))

/-- Post a notice to the slot that holds the master role, if any, unless it is slot `except`. -/
def State.postToMaster (s : State) (except : Option SlotId) (subject : Subject) (body : NoticeBody) : State :=
  match s.master with
  | none => s
  | some m => if except = some m then s else s.post m subject body

/-- Empty a notice queue whole; the holding word becomes 0 with it (R151, R156). -/
def State.emptyQueue (s : State) (n : SlotId) : State :=
  (s.setQueue n []).setPort n { s.port n with holding := 0 }

/-! ### Claim records (chapter 2) -/

/-- The phase is one of a hold: HELD, LAPSING or RECALLED. -/
def ClaimPhase.isHold : ClaimPhase → Bool
  | .free => false
  | .waiting => false
  | .held => true
  | .lapsing => true
  | .recalled => true

/-- The phase is HELD or LAPSING: a hold that is not RECALLED. -/
def ClaimPhase.isRenewable : ClaimPhase → Bool
  | .held => true
  | .lapsing => true
  | .free => false
  | .waiting => false
  | .recalled => false

/-- Record `r` is a hold on window `w` (R26). -/
def State.isHoldOn (s : State) (w : WindowId) (r : RecordId) : Bool :=
  (s.record r).phase.isHold && decide ((s.record r).window = w)

/-- The holder set of window `w`, in record order (R26). -/
def State.holders (s : State) (w : WindowId) : List RecordId := allRecords.filter (s.isHoldOn w)

/-- Slot `n`'s hold on window `w`, if it has one (R30). -/
def State.holdOf (s : State) (n : SlotId) (w : WindowId) : Option RecordId :=
  allRecords.find? fun r => s.isHoldOn w r && decide ((s.record r).slot = n)

/-- Record `r` is slot `n`'s WAITING record on window `w`. -/
def State.isWaitingOf (s : State) (n : SlotId) (w : WindowId) (r : RecordId) : Bool :=
  decide ((s.record r).phase = .waiting) && decide ((s.record r).slot = n) && decide ((s.record r).window = w)

/-- Slot `n`'s WAITING record on window `w`, if it has one (R30). -/
def State.waitingOf (s : State) (n : SlotId) (w : WindowId) : Option RecordId :=
  allRecords.find? (s.isWaitingOf n w)

/-- Slot `n`'s record on window `w`, waiting or held, if it has one (R30). -/
def State.recordOf (s : State) (n : SlotId) (w : WindowId) : Option RecordId :=
  allRecords.find? fun r =>
    decide ((s.record r).phase ≠ .free) && decide ((s.record r).slot = n) && decide ((s.record r).window = w)

/-- Slot `n`'s count of records in use (R32). -/
def State.inUse (s : State) (n : SlotId) : Nat :=
  (allRecords.filter fun r => decide ((s.record r).phase ≠ .free) && decide ((s.record r).slot = n)).length

/-- The lowest-numbered FREE record, if the pool is not empty (R31). -/
def State.lowestFree (s : State) : Option RecordId :=
  allRecords.find? fun r => decide ((s.record r).phase = .free)

/-- The place of record `r` in window `w`'s wait list, 1 being the head (R25). -/
def State.position (s : State) (w : WindowId) (r : RecordId) : Nat := (s.claim w).waitList.idxOf r + 1

/-- A record taken from the pool and filled in (R31). -/
def State.fillRecord (s : State) (r : RecordId) (n : SlotId) (w : WindowId) (phase : ClaimPhase) (mode : Mode)
    (tag : BitVec 8) (counter : Ticks) (beneficiary : Bool) : State :=
  s.setRecord r { phase, slot := n, window := w, mode, tag, counter, beneficiary }

/-- A record's state and counter change; the rest stays. -/
def State.setPhase (s : State) (r : RecordId) (phase : ClaimPhase) (counter : Ticks) : State :=
  s.setRecord r { s.record r with phase := phase, counter := counter }

/-- A hold of a given mode, HELD with its window's lease: renewal, UPGRADE and DOWNGRADE (R22). -/
def State.restartHold (s : State) (r : RecordId) (mode : Mode) : State :=
  s.setRecord r { s.record r with phase := .held, mode := mode, counter := (s.window (s.record r).window).lease }

/-- The recall runs on without a beneficiary (R28, R100). -/
def RecallMarker.dropBeneficiary : RecallMarker → RecallMarker
  | .idle => .idle
  | .inProgress _ => .inProgress none

/-- The claim state of a record's window after the record leaves its wait list or holder set (R34, steps 1 and 2). -/
def ClaimRecord.leave (c : ClaimRecord) (r : RecordId) (k : WindowClaims) : WindowClaims :=
  match c.phase with
  | .free => k
  | .waiting =>
    { k with
      waitList := k.waitList.erase r
      marker := if c.beneficiary then k.marker.dropBeneficiary else k.marker }
  | .held => { k with upgrader := if k.upgrader = some c.slot then none else k.upgrader }
  | .lapsing => { k with upgrader := if k.upgrader = some c.slot then none else k.upgrader }
  | .recalled => { k with upgrader := if k.upgrader = some c.slot then none else k.upgrader }

/-- Retire record `r` as one change (R34). -/
def State.retire (s : State) (r : RecordId) : State :=
  (s.setClaim (s.record r).window ((s.record r).leave r (s.claim (s.record r).window))).setRecord r .cleared

/-! ### The grant pass (chapter 3.4) -/

/-- A WAITING record becomes a hold, with GRANTED to its slot (R47). -/
def State.grant (s : State) (r : RecordId) : State :=
  let c := s.record r
  let k := s.claim c.window
  ((s.setClaim c.window { k with waitList := k.waitList.erase r }).setRecord r
    { c with phase := .held, counter := (s.window c.window).lease, beneficiary := false }).post c.slot
      (.window c.window) (.granted c.mode c.tag)

/-- Grant the SHARED records from the head of a wait list up to the first EXCLUSIVE one (R48 step 4). -/
def State.grantBatch (s : State) : List RecordId → State
  | [] => s
  | r :: rest => if (s.record r).mode = .shared then (s.grant r).grantBatch rest else s

/-- Every hold on window `w` is SHARED (true of none). -/
def State.allShared (s : State) (w : WindowId) : Bool :=
  (s.holders w).all fun r => decide ((s.record r).mode = .shared)

/-- The pending upgrade of record `r` completes (R48 step 1). -/
def State.completeUpgrade (s : State) (w : WindowId) (r : RecordId) : State :=
  ((s.restartHold r .exclusive).setClaim w { s.claim w with upgrader := none }).post (s.record r).slot (.window w)
    (.granted .exclusive (s.record r).tag)

/-- The steps of a grant pass; the first that applies decides it (R48). -/
def State.grantSteps (s : State) (w : WindowId) : State :=
  match (s.claim w).upgrader with
  | some u =>
    match s.holders w with
    | [r] => if (s.record r).slot = u then s.completeUpgrade w r else s
    | _ => s
  | none =>
    match (s.claim w).waitList with
    | [] => s
    | r :: rest =>
      if (s.record r).mode = .exclusive then
        if s.holders w = [] then s.grant r else s
      else if s.allShared w then s.grantBatch (r :: rest) else s

/-- A grant pass runs on an OPEN window with no recall in progress, and on no other (R46). -/
def State.grantPass (s : State) (w : WindowId) : State :=
  if (s.window w).state = .opened ∧ (s.claim w).marker = .idle then s.grantSteps w else s

/-! ### Follow-ups of a retirement (R35) -/

/-- The last hold of window `w` was retired: its recall ends, and a DRAINING window becomes CLOSED with WINDOW_CLOSED to
the master, unless the master is the slot whose exit retired the hold (R13, R35 step 1). -/
def State.lastHoldRetired (s : State) (w : WindowId) (exiting : Option SlotId) : State :=
  let s' := s.setClaim w { s.claim w with marker := .idle }
  if (s.window w).state = .draining then
    (s'.setWindow w { s.window w with state := .closed }).postToMaster exiting (.window w) .windowClosed
  else s'

/-- The follow-ups on window `w` after an event's retirements there; `holdRetired` says that one of them was a hold,
`exiting` names the slot whose exit processing made them (R35). -/
def State.followUps (s : State) (w : WindowId) (holdRetired : Bool) (exiting : Option SlotId) : State :=
  (if holdRetired = true ∧ s.holders w = [] then s.lastHoldRetired w exiting else s).grantPass w

/-- Retire record `r` by an event that retires nothing else on its window, and make the follow-ups (R34, R35). -/
def State.retireAlone (s : State) (r : RecordId) (exiting : Option SlotId) : State :=
  (s.retire r).followUps (s.record r).window (s.record r).phase.isHold exiting

/-! ### Exit processing (chapter 8.4) -/

/-- On the visit to window `w`, retire slot `n`'s record there, if it has one (R36). -/
def State.exitWindow (s : State) (n : SlotId) (w : WindowId) : State :=
  match s.recordOf n w with
  | none => s
  | some r => s.retireAlone r (some n)

/-- Retire every record of slot `n`, window by window (R36; R135 step 1). -/
def State.exitRecords (s : State) (n : SlotId) : State :=
  allWindows.foldl (fun s w => s.exitWindow n w) s

/-- The slot's standing after a stop of its participation: its state and exit reason, and silence counter 0 (R127, R135
step 2). -/
def State.leaveActive (s : State) (n : SlotId) (reason : ExitReason) : State :=
  s.setSlot n
    { s.slot n with state := if reason = .removed then .absent else .present, exitReason := reason, silence := 0 }

/-- Empty the slot's notice queue and both FIFOs and clear its attention enable: removal (R129, R156, R166). -/
def State.clearPort (s : State) (n : SlotId) : State :=
  (s.emptyQueue n).setPort n
    { (s.emptyQueue n).port n with commands := [], responses := [], attnEnable := false }

/-- As for removal, and PARAM0 to PARAM2 become 0: slot reset (R130, R159, R166). -/
def State.clearPortAndParams (s : State) (n : SlotId) : State :=
  (s.clearPort n).setPort n { (s.clearPort n).port n with param0 := 0, param1 := 0, param2 := 0 }

/-- The exiting slot's queue and port, by the exit reason (R135 step 3). -/
def State.exitPort (s : State) (n : SlotId) (reason : ExitReason) : State :=
  match reason with
  | .none => s
  | .left => s.emptyQueue n
  | .silent => (s.emptyQueue n).post n (.slot n) (.exited .silent)
  | .evicted => (s.emptyQueue n).post n (.slot n) (.exited .evicted)
  | .reset => s.clearPortAndParams n
  | .removed => s.clearPort n

/-- SLOT_CHANGE on slot `n` to the master, if another slot holds the role (R137). -/
def State.reportSlotChange (s : State) (n : SlotId) : State :=
  s.postToMaster (some n) (.slot n) (.slotChange (s.slot n).state (s.slot n).exitReason)

/-- Slot `n` is in the eligible set (R128). -/
def State.isEligible (s : State) (n : SlotId) : Bool := s.eligible.getLsbD n.val

/-- ROLE (VACANT) to slot `m` if it is ACTIVE and eligible (R135 step 5). -/
def State.tellVacant (s : State) (m : SlotId) : State :=
  if (s.slot m).state = .active ∧ s.isEligible m = true then s.post m .role (.role .vacant) else s

/-- The master's exit vacates the role, told to every eligible ACTIVE slot in slot order (R135 step 5). -/
def State.exitRole (s : State) (n : SlotId) : State :=
  if s.master = some n then allSlots.foldl State.tellVacant (s.setMaster none) else s

/-- Exit processing of slot `n`: records, standing, queue and port, master report, role (R135). -/
def State.exit (s : State) (n : SlotId) (reason : ExitReason) : State :=
  let s3 := ((s.exitRecords n).leaveActive n reason).exitPort n reason
  let s4 := if reason = .evicted then s3 else s3.reportSlotChange n
  s4.exitRole n

/-- Reload an ACTIVE slot's silence counter with the silence limit (R134). -/
def State.reloadSilence (s : State) (n : SlotId) : State :=
  if (s.slot n).state = .active then s.setSlot n { s.slot n with silence := s.silenceLimit } else s

end Sys2Proof.Machine
end

