-- ==== Sys2Proof/Machine/Operands.lean ====
section
/-! DEFINITION. Machine/Operands.lean: the parameter fields of the commands and their ranges (10.8), the opcodes of the
catalogue (10.7), and the claim-state readings the commands' checks share. -/

namespace Sys2Proof.Machine

/-- The opcodes of the command catalogue (10.7). -/
def catalogue : List (BitVec 8) :=
  [0x01, 0x02, 0x03, 0x04, 0x05, 0x06, 0x07, 0x08, 0x09, 0x0A, 0x0B, 0x0C,
   0x10, 0x11, 0x12, 0x13, 0x14, 0x15, 0x16, 0x17, 0x18, 0x19]

/-! ### Windows and slots named by a parameter word -/

/-- Bits 7:0 of a parameter word. -/
def lowByte (p : Word) : BitVec 8 := p.extractLsb' 0 8

/-- A window field (bits 7:0) accepts 0 to 31 (10.8). -/
def windowInRange (p : Word) : Bool := decide ((lowByte p).toNat < 32)

/-- The window that an in-range window field names. -/
def windowField (p : Word) : WindowId := Fin.ofNat 32 (lowByte p).toNat

/-- A slot field (bits 7:0) accepts 0 to 7 (10.8). -/
def slotInRange (p : Word) : Bool := decide ((lowByte p).toNat < 8)

/-- The slot that an in-range slot field names. -/
def slotField (p : Word) : SlotId := Fin.ofNat 8 (lowByte p).toNat

/-- Bit `i` of a parameter word. -/
def flagBit (p : Word) (i : Nat) : Bool := p.getLsbD i

/-! ### CLAIM -/

/-- The mode code, PARAM0 bits 9:8: 1 SHARED, 2 EXCLUSIVE, 0 and 3 invalid. -/
def CommandEntry.claimMode (e : CommandEntry) : Option Mode :=
  match (e.param0.extractLsb' 8 2).toNat with
  | 1 => some .shared
  | 2 => some .exclusive
  | _ => none

/-- The TRY flag, PARAM0 bit 12. -/
def CommandEntry.claimTry (e : CommandEntry) : Bool := flagBit e.param0 12

/-- The wait limit, PARAM1 bits 15:0. -/
def CommandEntry.waitLimit (e : CommandEntry) : Ticks := e.param1.extractLsb' 0 16

/-! ### DEFINE -/

/-- The size code, PARAM0 bits 11:8; 15 is invalid. -/
def CommandEntry.defineSize (e : CommandEntry) : Option SizeCode :=
  let v := (e.param0.extractLsb' 8 4).toNat
  if h : v < 15 then some ⟨v, h⟩ else none

/-- The target, PARAM0 bits 14:12; 6 and 7 are invalid. -/
def CommandEntry.defineTarget (e : CommandEntry) : Option TargetId :=
  let v := (e.param0.extractLsb' 12 3).toNat
  if h : v < 6 then some ⟨v, h⟩ else none

/-- The share code, PARAM0 bits 17:16: 1 EXCLUSIVE_ONLY, 2 SHARED_ALLOWED, 0 and 3 invalid. -/
def CommandEntry.defineShare (e : CommandEntry) : Option SharePolicy :=
  match (e.param0.extractLsb' 16 2).toNat with
  | 1 => some .exclusiveOnly
  | 2 => some .sharedAllowed
  | _ => none

/-- The foreign code, PARAM0 bits 19:18: 0 REFUSE, 1 HOLDOFF, 2 READ_THROUGH, 3 invalid. -/
def CommandEntry.defineForeign (e : CommandEntry) : Option ForeignPolicy :=
  match (e.param0.extractLsb' 18 2).toNat with
  | 0 => some .refuse
  | 1 => some .holdoff
  | 2 => some .readThrough
  | _ => none

/-- The base lies in the shared space and is a multiple of the window's size (R7). -/
def baseInRange (base : Word) (code : SizeCode) : Bool :=
  inSharedSpace base && decide (base.toNat % Config.windowSize code = 0)

/-- The window record DEFINE writes, if every definition field is in range (R6, R7). -/
def CommandEntry.definition (e : CommandEntry) : Option WindowRecord :=
  match e.defineSize, e.defineTarget, e.defineShare, e.defineForeign with
  | some code, some target, some share, some foreign =>
    if baseInRange e.param1 code = true ∧ e.param2.extractLsb' 16 8 ≠ 0 ∧ e.param2.extractLsb' 24 8 ≠ 0 then
      some
        { state := .closed, base := e.param1, sizeCode := code, target := target, share := share,
          foreign := foreign, renewOnAccess := flagBit e.param0 20, lease := e.param2.extractLsb' 0 16,
          grace := e.param2.extractLsb' 16 8, recallLimit := e.param2.extractLsb' 24 8 }
    else none
  | _, _, _, _ => none

/-! ### Window extents (R2, R8, R14) -/

/-- The lowest address of a window. -/
def WindowRecord.first (d : WindowRecord) : Nat := d.base.toNat

/-- The first address above a window: base + size (R2). -/
def WindowRecord.past (d : WindowRecord) : Nat := d.base.toNat + Config.windowSize d.sizeCode

/-- The window takes part in the decode and in the overlap check: it is not UNDEFINED (R8, R14). -/
def WindowRecord.isDefined (d : WindowRecord) : Bool := decide (d.state ≠ .undefined)

/-- The address lies in the window's extent (R14). -/
def WindowRecord.covers (d : WindowRecord) (addr : Word) : Bool :=
  decide (d.first ≤ addr.toNat) && decide (addr.toNat < d.past)

/-- The two extents share an address (R8). -/
def WindowRecord.overlaps (d d' : WindowRecord) : Bool :=
  decide (d.first < d'.past) && decide (d'.first < d.past)

/-- Some other defined window shares an address with the extent (R8). -/
def State.overlapsOther (s : State) (w : WindowId) (d : WindowRecord) : Bool :=
  allWindows.any fun v => decide (v ≠ w) && (s.window v).isDefined && d.overlaps (s.window v)

/-- The window whose extent contains the address, or none: UNMAPPED (R14). -/
def State.decodeAddress (s : State) (addr : Word) : Option WindowId :=
  allWindows.find? fun w => (s.window w).isDefined && (s.window w).covers addr

/-! ### RECALL, SET_QUOTA, SET_TIMING -/

/-- RECALL's beneficiary: PARAM1 bit 8 says whether PARAM1 bits 7:0 name one. -/
def CommandEntry.beneficiaryGiven (e : CommandEntry) : Bool := flagBit e.param1 8

/-- RECALL's beneficiary, if one is given. -/
def CommandEntry.beneficiary (e : CommandEntry) : Option SlotId :=
  if e.beneficiaryGiven then some (slotField e.param1) else none

/-- SET_QUOTA's quota, PARAM1 bits 7:0, accepts 1 to 64. -/
def CommandEntry.quotaInRange (e : CommandEntry) : Bool :=
  decide (1 ≤ (lowByte e.param1).toNat) && decide ((lowByte e.param1).toNat ≤ 64)

/-- SET_TIMING's tick select, PARAM0 bits 7:0, accepts 0 to 3. -/
def CommandEntry.tickSelectInRange (e : CommandEntry) : Bool := decide ((lowByte e.param0).toNat < 4)

/-- SET_TIMING's silence limit, PARAM1 bits 15:0. -/
def CommandEntry.silenceField (e : CommandEntry) : Ticks := e.param1.extractLsb' 0 16

/-! ### Readings shared by the checks -/

/-- The claim can be granted at once as the window's claim state stands (R42). -/
def State.grantableAtOnce (s : State) (w : WindowId) (m : Mode) : Bool :=
  decide ((s.claim w).waitList = []) && decide ((s.claim w).marker = .idle)
    && decide ((s.claim w).upgrader = none)
    && (match m with
        | .exclusive => decide (s.holders w = [])
        | .shared => s.allShared w)

/-- The phase of slot `n`'s hold on window `w`, FREE if it has none. -/
def State.holdPhase (s : State) (n : SlotId) (w : WindowId) : ClaimPhase :=
  match s.holdOf n w with
  | some r => (s.record r).phase
  | none => .free

/-- The mode of slot `n`'s hold on window `w`, if it has one. -/
def State.holdMode (s : State) (n : SlotId) (w : WindowId) : Option Mode :=
  (s.holdOf n w).map fun r => (s.record r).mode

/-- Slot `n`'s records in use have reached its quota (R31 check 1). -/
def State.quotaReached (s : State) (n : SlotId) : Bool := decide ((s.slot n).quota ≤ s.inUse n)

end Sys2Proof.Machine
end

