-- ==== Sys2Proof/Machine/Flags.lean ====
section
/-! DEFINITION. Machine/Flags.lean: codes and word layouts (10.8, 10.9), the STATUS word (R164), the notice words
(R151) and the output pins (R119, R155, R157, 10.10). -/

namespace Sys2Proof.Machine

/-- A field of a 32-bit word: the low `width` bits of a value, placed with the lowest at bit `lo`. -/
def bitsAt (lo width v : Nat) : Word := BitVec.ofNat 32 (v % 2 ^ width * 2 ^ lo)

/-- A one-bit field. -/
def bitAt (lo : Nat) (b : Bool) : Word := bitsAt lo 1 b.toNat

/-! ### Codes -/

/-- Mode code in results and notices. -/
def Mode.code : Mode → Nat
  | .shared => 0
  | .exclusive => 1

/-- Window state code. -/
def WindowState.code : WindowState → Nat
  | .undefined => 0
  | .closed => 1
  | .opened => 2
  | .draining => 3

/-- Claim state code; FREE is 0, no record. -/
def ClaimPhase.code : ClaimPhase → Nat
  | .free => 0
  | .waiting => 1
  | .held => 2
  | .lapsing => 3
  | .recalled => 4

/-- Slot state code. -/
def SlotState.code : SlotState → Nat
  | .absent => 0
  | .present => 1
  | .active => 2

/-- Exit reason code. -/
def ExitReason.code : ExitReason → Nat
  | .none => 0
  | .left => 1
  | .silent => 2
  | .evicted => 3
  | .reset => 4
  | .removed => 5

/-- Share policy code; an UNDEFINED window reports 0. -/
def SharePolicy.code : SharePolicy → Nat
  | .cleared => 0
  | .exclusiveOnly => 1
  | .sharedAllowed => 2

/-- Foreign policy code. -/
def ForeignPolicy.code : ForeignPolicy → Nat
  | .refuse => 0
  | .holdoff => 1
  | .readThrough => 2

/-- Outcome code (R165). -/
def OutcomeCode.code : OutcomeCode → Nat
  | .ok => 0x01
  | .queued => 0x02
  | .badOpcode => 0x03
  | .badParam => 0x04
  | .notActive => 0x05
  | .alreadyActive => 0x06
  | .notMaster => 0x07
  | .noWindow => 0x08
  | .windowClosed => 0x09
  | .windowBusy => 0x0A
  | .overlap => 0x0B
  | .notSharable => 0x0C
  | .alreadyHeld => 0x0D
  | .alreadyWaiting => 0x0E
  | .notHeld => 0x0F
  | .notWaiting => 0x10
  | .notExclusive => 0x11
  | .notShared => 0x12
  | .upgradeConflict => 0x13
  | .recallPending => 0x14
  | .recalled => 0x15
  | .noExclusiveWaiter => 0x16
  | .poolEmpty => 0x17
  | .quotaFull => 0x18
  | .quotaBelowUse => 0x19
  | .roleTaken => 0x1A
  | .notEligible => 0x1B
  | .slotNotActive => 0x1C

/-! ### Responses -/

/-- RESP0: tag, opcode echo, outcome, query extension (10.8). -/
def Response.word0 (x : Response) : Word :=
  bitsAt 0 8 x.tag.toNat ||| bitsAt 8 8 x.opcode.toNat ||| bitsAt 16 5 x.outcome.code ||| bitsAt 21 11 x.ext.toNat

/-- Word `i` of the head response; 0 when the FIFO is empty (R163). -/
def SlotPort.respWord (p : SlotPort) (i : Nat) : Word :=
  match p.responses with
  | [] => 0
  | x :: _ => if i = 0 then x.word0 else if i = 1 then x.word1 else x.word2

/-! ### Notices -/

/-- Subject code. -/
def Subject.code : Subject → Nat
  | .window w => w.val
  | .unmapped => 32
  | .slot n => 33 + n.val
  | .role => 41

/-- Kind code; NONE is 0. -/
def NoticeBody.kind : NoticeBody → Nat
  | .granted _ _ => 1
  | .lapseWarning _ => 2
  | .lapsed => 3
  | .recalled _ _ => 4
  | .forced => 5
  | .withdrawn _ => 6
  | .violation _ _ => 7
  | .windowClosed => 8
  | .slotChange _ _ => 9
  | .exited _ => 10
  | .role _ => 11

/-- Reason code of WITHDRAWN. -/
def WithdrawReason.code : WithdrawReason → Nat
  | .timedOut => 0
  | .closing => 1

/-- Cause code of VIOLATION. -/
def ViolationCause.code : ViolationCause → Nat
  | .slotNotActive => 1
  | .unmapped => 2
  | .windowNotOpen => 3
  | .sharedWrite => 4
  | .notHolder => 5

/-- Access code of VIOLATION. -/
def accessCode : AccessKind → Nat
  | .read => 0
  | .write => 1

/-- Code of a ROLE notice's detail. -/
def RoleChange.code : RoleChange → Nat
  | .gained => 1
  | .lost => 2
  | .vacant => 3

/-- NOTICE1: the detail and tag (R151, 10.8). The bits that 10.8 assigns to no field read 0 (DESIGN CHOICE, log entry
13). -/
def NoticeBody.word1 : NoticeBody → Word
  | .granted mode tag => bitsAt 0 1 mode.code ||| bitsAt 8 8 tag.toNat
  | .lapseWarning grace => bitsAt 0 8 grace.toNat
  | .lapsed => 0
  | .recalled limit cancelled => bitsAt 0 8 limit.toNat ||| bitAt 16 cancelled
  | .forced => 0
  | .withdrawn reason => bitsAt 0 1 reason.code
  | .violation access cause => bitsAt 0 1 (accessCode access) ||| bitsAt 8 3 cause.code
  | .windowClosed => 0
  | .slotChange state reason => bitsAt 0 2 state.code ||| bitsAt 4 3 reason.code
  | .exited reason => bitsAt 0 3 reason.code
  | .role change => bitsAt 0 2 change.code

/-- NOTICE0: kind, subject, folded flag (R151, 10.8). Bits 31:17, which 10.8 assigns to no field, read 0 (DESIGN CHOICE,
log entry 13). -/
def Notice.word0 (x : Notice) : Word :=
  bitsAt 0 8 x.body.kind ||| bitsAt 8 8 x.subject.code ||| bitAt 16 x.folded

/-- What a NOTICE0 read returns for a queue (R151). -/
def noticeHeadWord : List Notice → Word
  | [] => 0
  | x :: _ => x.word0

/-- What a NOTICE0 read copies into the holding word (R151). -/
def noticeHoldingWord : List Notice → Word
  | [] => 0
  | x :: _ => x.body.word1

/-! ### STATUS -/

/-- The command FIFO's free entries (R164). -/
def SlotPort.freeEntries (p : SlotPort) : Nat := Config.fifoDepth - p.commands.length

/-- STATUS of slot `n` (R164, 10.8). The bits that 10.8 assigns to no field read 0 (DESIGN CHOICE, log entry 13). -/
def State.status (s : State) (n : SlotId) : Word :=
  bitsAt 0 3 (s.port n).freeEntries ||| bitsAt 4 3 (s.port n).responses.length ||| bitsAt 8 6 (s.queue n).length
    ||| bitsAt 16 2 (s.slot n).state.code ||| bitsAt 20 3 (s.slot n).exitReason.code
    ||| bitAt 24 (decide (s.master = some n))

/-! ### Query results (10.9) -/

/-- View DEFINITION, word 1. -/
def WindowRecord.word1 (d : WindowRecord) : Word :=
  bitsAt 0 16 d.lease.toNat ||| bitsAt 16 8 d.grace.toNat ||| bitsAt 24 8 d.recallLimit.toNat

/-- View DEFINITION, word 2: base bits 31:12 stand in bits 31:12. -/
def WindowRecord.word2 (d : WindowRecord) : Word :=
  (d.base &&& 0xFFFFF000#32) ||| bitsAt 0 4 d.sizeCode.val ||| bitsAt 4 3 d.target.val ||| bitsAt 7 2 d.share.code
    ||| bitsAt 9 2 d.foreign.code ||| bitAt 11 d.renewOnAccess

/-- View CLAIMS, word 1: the caller's own record on the window; 0 in every field when it has none (R167). The position
belongs to a WAITING record alone, and reads 0 for a hold (DESIGN CHOICE, log entry 14). -/
def State.ownRecordWord (s : State) (n : SlotId) (w : WindowId) : Word :=
  match s.recordOf n w with
  | none => 0
  | some r =>
    bitsAt 0 16 (s.record r).counter.toNat ||| bitsAt 16 7 r.val ||| bitsAt 23 1 (s.record r).mode.code
      ||| bitsAt 24 3 (s.record r).phase.code
      ||| bitsAt 27 4 (if (s.record r).phase = .waiting then s.position w r else 0)

/-- Holder-set mode code: 0 none, 1 SHARED, 2 EXCLUSIVE (R26). -/
def State.holderMode (s : State) (w : WindowId) : Nat :=
  if s.holders w = [] then 0 else if s.allShared w then 1 else 2

/-- The recall marker's bits of view CLAIMS, word 2: in progress, beneficiary named, beneficiary slot (R28, R167). The slot
reads 0 where no beneficiary is named (DESIGN CHOICE, log entry 14). -/
def RecallMarker.word : RecallMarker → Word
  | .idle => 0
  | .inProgress none => bitAt 10 true
  | .inProgress (some b) => bitAt 10 true ||| bitAt 11 true ||| bitsAt 12 3 b.val

/-- The pending upgrader's bits of view CLAIMS, word 2: present, slot (R27, R167). The slot reads 0 where there is none
(DESIGN CHOICE, log entry 14). -/
def upgraderWord : Option SlotId → Word
  | none => 0
  | some u => bitAt 15 true ||| bitsAt 16 3 u.val

/-- View CLAIMS, word 2: the window's claim state. -/
def State.claimsWord (s : State) (w : WindowId) : Word :=
  bitsAt 0 4 (s.holders w).length ||| bitsAt 4 2 (s.holderMode w) ||| bitsAt 6 4 (s.claim w).waitList.length
    ||| (s.claim w).marker.word ||| upgraderWord (s.claim w).upgrader

/-- QUERY_SLOT, word 1. -/
def State.slotWord (s : State) (n : SlotId) : Word :=
  bitsAt 0 16 (s.slot n).silence.toNat ||| bitsAt 16 8 (s.slot n).slotClass.toNat ||| bitsAt 24 7 (s.slot n).quota
    ||| bitAt 31 (decide (s.master = some n))

/-! ### Output pins -/

/-- ATN[n] (R155); no attention output is driven while POR# is asserted (R144). -/
def State.atn (s : State) (n : SlotId) : Bool :=
  !s.porAsserted && (s.port n).attnEnable && !(s.queue n).isEmpty

/-- Target-select line TS`t` (R119). -/
def State.ts (s : State) (t : TargetId) : Bool := decide (s.inHand = some (.pass t))

/-- TERR#, asserted: a refused cycle in hand, or a refused control-block cycle (R120, R157). -/
def State.terr (s : State) : Bool := decide (s.inHand = some .refuse) || decide (s.portAnswer = .refused)

/-- TRTY#, asserted: a held-off cycle in hand (R118). -/
def State.trty (s : State) : Bool := decide (s.inHand = some .holdOff)

/-- CBACK#, asserted: an accepted control-block cycle (10.10). -/
def State.cback (s : State) : Bool :=
  match s.portAnswer with
  | .accepted _ => true
  | .idle => false
  | .refused => false

end Sys2Proof.Machine
end

