-- ==== Sys2Proof/Machine/Take.lean ====
section
/-! DEFINITION. Machine/Take.lean: the Command Engine: the round-robin arbiter (R161), the take (R162), and the answer to
a checked command (R165). -/

namespace Sys2Proof.Machine

/-- What a command answers: its outcome and result fields (R165, 10.8). -/
structure Reply where
  outcome : OutcomeCode
  ext : BitVec 11
  word1 : Word
  word2 : Word
  deriving DecidableEq, Repr

/-- A refusal's result fields are 0 (R165). -/
def Reply.refusal (o : OutcomeCode) : Reply := { outcome := o, ext := 0, word1 := 0, word2 := 0 }

/-- A success with its two result words. -/
def Reply.success (o : OutcomeCode) (word1 word2 : Word) : Reply :=
  { outcome := o, ext := 0, word1 := word1, word2 := word2 }

/-- The first check that fails decides the refusal (R165); each pair is a failure condition and its outcome. -/
def firstRefusal : List (Bool × OutcomeCode) → Option OutcomeCode
  | [] => none
  | (failed, o) :: rest => if failed = true then some o else firstRefusal rest

/-- A command refused by its checks changes nothing; one that passes has its effect. -/
def State.answer (s : State) (checks : List (Bool × OutcomeCode)) (effect : State × Reply) : State × Reply :=
  match firstRefusal checks with
  | some o => (s, Reply.refusal o)
  | none => effect

/-! ### Checks that commands share (R165) -/

/-- Slot-state step of a command taken from an ACTIVE slot. -/
def State.checkActive (s : State) (c : SlotId) : Bool × OutcomeCode :=
  (decide ((s.slot c).state ≠ .active), .notActive)

/-- Slot-state step of a query, taken from a PRESENT or ACTIVE slot. -/
def State.checkSeated (s : State) (c : SlotId) : Bool × OutcomeCode :=
  (decide ((s.slot c).state = .absent), .notActive)

/-- Privilege step of a master-only command (R142). -/
def State.checkMaster (s : State) (c : SlotId) : Bool × OutcomeCode :=
  (decide (s.master ≠ some c), .notMaster)

/-- Range step of a window field. -/
def checkWindowRange (e : CommandEntry) : Bool × OutcomeCode := (!windowInRange e.param0, .badParam)

/-- Window-defined step. -/
def State.checkDefined (s : State) (e : CommandEntry) : Bool × OutcomeCode :=
  (!(s.window (windowField e.param0)).isDefined, .noWindow)

/-- The caller has a hold on the window (R62 step 5). -/
def State.checkHolds (s : State) (c : SlotId) (e : CommandEntry) : Bool × OutcomeCode :=
  ((s.holdOf c (windowField e.param0)).isNone, .notHeld)

/-- The caller's hold is not RECALLED (R68, R71, R73). -/
def State.checkNotRecalled (s : State) (c : SlotId) (e : CommandEntry) : Bool × OutcomeCode :=
  (decide (s.holdPhase c (windowField e.param0) = .recalled), .recalled)

/-! ### The arbiter and the take -/

/-- The slot may be taken from: a command waits and its response has room (R161). -/
def State.mayTake (s : State) (n : SlotId) : Bool :=
  !(s.port n).commands.isEmpty && decide ((s.port n).responses.length < Config.fifoDepth)

/-- The slots in the order the arbiter considers them: pointer + 1 and on, wrapping, ending with the pointer's own
(R161). -/
def arbiterOrder (pointer : SlotId) : List SlotId := allSlots.map fun i => pointer + 1 + i

/-- The slot and entry the Command Engine takes next, if some slot is eligible (R161). -/
def State.nextTake (s : State) : Option (SlotId × CommandEntry) :=
  match (arbiterOrder s.pointer).find? s.mayTake with
  | none => none
  | some c =>
    match (s.port c).commands with
    | [] => none
    | e :: _ => some (c, e)

/-- The head entry leaves the slot's command FIFO and the pointer becomes that slot (R161, R162 step 1). -/
def State.popCommand (s : State) (c : SlotId) : State :=
  { s.setPort c { s.port c with commands := (s.port c).commands.tail } with pointer := c }

/-- The response to entry `e` joins the tail of the slot's response FIFO (R162 step 4). -/
def State.pushResponse (s : State) (c : SlotId) (e : CommandEntry) (y : Reply) : State :=
  s.setPort c
    { s.port c with
      responses := (s.port c).responses ++
        [{ tag := e.tag, opcode := e.opcode, outcome := y.outcome, ext := y.ext, word1 := y.word1, word2 := y.word2 }] }

/-- A whole take: the entry leaves its FIFO, the command is judged and has its effect, one response is pushed (R162). -/
def State.completeTake (s : State) (c : SlotId) (e : CommandEntry)
    (command : SlotId → CommandEntry → State → State × Reply) : State :=
  let r := command c e (s.popCommand c)
  r.1.pushResponse c e r.2

/-- The take of an entry whose opcode satisfies `isOpcode`. Where no slot is eligible, the entry the arbiter reaches is
another command's, or POR# is asserted (R144), no such take happens and nothing changes (DEDUCED, log entry 2). -/
def State.takeWhere (s : State) (isOpcode : BitVec 8 → Bool)
    (command : SlotId → CommandEntry → State → State × Reply) : State :=
  if s.porAsserted then s
  else
    match s.nextTake with
    | none => s
    | some (c, e) => if isOpcode e.opcode then s.completeTake c e command else s

/-- The take of a command of the catalogue, by its code (10.7). -/
def runCommand (code : BitVec 8) (command : SlotId → CommandEntry → State → State × Reply) (s : State) :
    Host.Outcome State Fault Refusal :=
  .next (s.takeWhere (fun x => x == code) command)

end Sys2Proof.Machine
end

