-- ==== Sys2Proof/Machine/ClaimCommands.lean ====
section
/-! DEFINITION. Machine/ClaimCommands.lean: CLAIM and WITHDRAW (chapter 3). -/

namespace Sys2Proof.Machine

/-! ### CLAIM (R39 to R45) -/

/-- The checks of CLAIM in the order of R40, the mode decoded. -/
def claimChecks (c : SlotId) (e : CommandEntry) (m : Mode) (s : State) : List (Bool × OutcomeCode) :=
  let w := windowField e.param0
  [s.checkDefined e,
   (decide ((s.window w).state ≠ .opened), .windowClosed),
   (decide (m = .shared) && decide ((s.window w).share ≠ .sharedAllowed), .notSharable),
   ((s.holdOf c w).isSome, .alreadyHeld),
   ((s.waitingOf c w).isSome, .alreadyWaiting),
   (e.claimTry && !s.grantableAtOnce w m, .windowBusy),
   (s.quotaReached c, .quotaFull),
   (s.lowestFree.isNone, .poolEmpty)]

/-- The record is taken as a hold, and a grant pass follows (R43). -/
def State.claimAtOnce (s : State) (c : SlotId) (w : WindowId) (m : Mode) (tag : BitVec 8) (r : RecordId) : State :=
  (s.fillRecord r c w .held m tag (s.window w).lease false).grantPass w

/-- The record is taken as a WAITING claim at the tail of the wait list (R45). -/
def State.enqueueClaim (s : State) (c : SlotId) (w : WindowId) (m : Mode) (tag : BitVec 8) (wait : Ticks)
    (r : RecordId) : State :=
  (s.fillRecord r c w .waiting m tag wait false).setClaim w
    { s.claim w with waitList := (s.claim w).waitList ++ [r] }

/-- CLAIM's effect, with the record it takes (R43, R45). -/
def claimEffect (c : SlotId) (e : CommandEntry) (m : Mode) (r : RecordId) (s : State) : State × Reply :=
  let w := windowField e.param0
  if s.grantableAtOnce w m then
    (s.claimAtOnce c w m e.tag r, Reply.success .ok (bitsAt 0 7 r.val ||| bitsAt 8 1 m.code) 0)
  else
    let s1 := s.enqueueClaim c w m e.tag e.waitLimit r
    (s1.grantPass w,
      Reply.success .queued (bitsAt 0 7 r.val ||| bitsAt 8 1 m.code ||| bitsAt 16 4 (s1.position w r)) 0)

/-- CLAIM (window, mode, wait limit, TRY). -/
def claimCommand (c : SlotId) (e : CommandEntry) (s : State) : State × Reply :=
  s.answer [s.checkActive c, (!windowInRange e.param0 || e.claimMode.isNone, .badParam)]
    (match e.claimMode with
     | none => (s, Reply.refusal .badParam)
     | some m =>
       s.answer (claimChecks c e m s)
         (match s.lowestFree with
          | none => (s, Reply.refusal .poolEmpty)
          | some r => claimEffect c e m r s))

/-- CLAIM (R40). -/
def execClaim (s : State) : Host.Outcome State Fault Refusal := runCommand 0x03 claimCommand s

/-! ### WITHDRAW (R54 to R56) -/

/-- The caller's waiting claim is retired with the follow-ups (R55), or its pending upgrade is cleared and a grant pass
runs (R56). -/
def withdrawEffect (c : SlotId) (w : WindowId) (s : State) : State × Reply :=
  match s.waitingOf c w with
  | some r => (s.retireAlone r none, Reply.success .ok (bitsAt 0 7 r.val) 0)
  | none =>
    ((s.setClaim w { s.claim w with upgrader := none }).grantPass w,
      Reply.success .ok (bitsAt 0 7 ((s.holdOf c w).getD 0).val ||| bitAt 8 true) 0)

/-- WITHDRAW (window). -/
def withdrawCommand (c : SlotId) (e : CommandEntry) (s : State) : State × Reply :=
  let w := windowField e.param0
  s.answer
    [s.checkActive c, checkWindowRange e, s.checkDefined e,
     ((s.waitingOf c w).isNone && decide ((s.claim w).upgrader ≠ some c), .notWaiting)]
    (withdrawEffect c w s)

/-- WITHDRAW (R54). -/
def execWithdraw (s : State) : Host.Outcome State Fault Refusal := runCommand 0x04 withdrawCommand s

end Sys2Proof.Machine
end

