-- ==== Sys2Proof/Machine/Cycles.lean ====
section
/-! DEFINITION. Machine/Cycles.lean: the Cycle Checker (chapter 7): CYCLE_CHECK and CYCLE_END. -/

namespace Sys2Proof.Machine

/-- The outcome of the tests of R112 for one cycle: a pass at test 4 or 5 by the initiator's hold, a foreign read passed
at test 6, a refusal with its cause, or a hold-off. -/
inductive Verdict where
  | passHolder (w : WindowId) (r : RecordId)
  | passForeign (w : WindowId)
  | refuse (cause : ViolationCause)
  | holdOff
  deriving DecidableEq, Repr

/-- Test 6: a foreign access is decided by the window's foreign policy (R117). -/
def State.judgeForeign (s : State) (w : WindowId) (kind : AccessKind) : Verdict :=
  match (s.window w).foreign with
  | .refuse => .refuse .notHolder
  | .holdoff => .holdOff
  | .readThrough => if kind = .read then .passForeign w else .refuse .notHolder

/-- Tests 4 to 6 on an OPEN or DRAINING window: the initiator's hold, by its mode, or the foreign policy (R115, R117). -/
def State.judgeHolder (s : State) (n : SlotId) (w : WindowId) (kind : AccessKind) : Verdict :=
  match s.holdOf n w with
  | some r =>
    if (s.record r).mode = .exclusive ∨ kind = .read then .passHolder w r else .refuse .sharedWrite
  | none => s.judgeForeign w kind

/-- The ordered tests of R112; the first that applies decides the cycle. -/
def State.judge (s : State) (n : SlotId) (addr : Word) (kind : AccessKind) : Verdict :=
  if (s.slot n).state ≠ .active then .refuse .slotNotActive
  else
    match s.decodeAddress addr with
    | none => .refuse .unmapped
    | some w => if (s.window w).state = .closed then .refuse .windowNotOpen else s.judgeHolder n w kind

/-- The subject of a VIOLATION: the decode result for the address (R113, R120). -/
def State.violationSubject (s : State) (addr : Word) : Subject :=
  match s.decodeAddress addr with
  | none => .unmapped
  | some w => .window w

/-- The Cycle Checker takes a cycle in hand with its decision; the cycle before it has ended (R111). -/
def State.takeInHand (s : State) (d : Decision) : State := { s with inHand := some d, portAnswer := .idle }

/-- Renewal by access: a HELD or LAPSING hold on a renew-on-access window gets its lease again (R89, R121). -/
def State.renewByAccess (s : State) (w : WindowId) (r : RecordId) : State :=
  if (s.window w).renewOnAccess = true ∧ (s.record r).phase.isRenewable = true then
    s.restartHold r (s.record r).mode
  else s

/-- What a judged cycle does: a passed one drives its target's select line and may renew, a refused one posts
VIOLATION to an initiator that is not ABSENT, a held-off one leaves nothing behind (R118 to R121). -/
def State.carryOut (s : State) (n : SlotId) (addr : Word) (kind : AccessKind) (v : Verdict) : State :=
  match v with
  | .passHolder w r => (s.renewByAccess w r).takeInHand (.pass (s.window w).target)
  | .passForeign w => s.takeInHand (.pass (s.window w).target)
  | .refuse cause => (s.post n (s.violationSubject addr) (.violation kind cause)).takeInHand .refuse
  | .holdOff => s.takeInHand .holdOff

/-- A shared-space cycle is taken and decided, and an ACTIVE initiator's silence counter is reloaded (R112, R122). -/
def State.checkCycle (s : State) (n : SlotId) (addr : Word) (kind : AccessKind) : State :=
  (s.reloadSilence n).carryOut n addr kind (s.judge n addr kind)

/-- CYCLE_CHECK: no cycle is taken while POR# is asserted (R144); an address outside the shared space is not presented
(R14); the width does not change the outcome (R111). -/
def execCycleCheck (n : SlotId) (addr : Word) (kind : AccessKind) (_width : Nat) (s : State) :
    Host.Outcome State Fault Refusal :=
  .next (if s.porAsserted = true ∨ inSharedSpace addr = false then s else s.checkCycle n addr kind)

/-- The cycle on the backplane ends: the cycle in hand is dropped and no termination is driven (R111, R119). -/
def State.endCycle (s : State) : State := { s with inHand := none, portAnswer := .idle }

/-- CYCLE_END (R111). -/
def execCycleEnd (s : State) : Host.Outcome State Fault Refusal := .next s.endCycle

end Sys2Proof.Machine
end

