-- ==== Sys2Proof/Machine/HoldCommands.lean ====
section
/-! DEFINITION. Machine/HoldCommands.lean: RELEASE, RENEW, UPGRADE, DOWNGRADE and TRANSFER (chapter 4). -/

namespace Sys2Proof.Machine

/-- The common checks of the five hold commands (R62); TRANSFER's range step adds its slot field. -/
def holdChecks (c : SlotId) (e : CommandEntry) (s : State) : List (Bool × OutcomeCode) :=
  [s.checkActive c, checkWindowRange e, s.checkDefined e, s.checkHolds c e]

/-- The effect of a hold command on the caller's hold, which the common checks found. -/
def State.onHold (s : State) (c : SlotId) (w : WindowId) (effect : RecordId → State × Reply) : State × Reply :=
  match s.holdOf c w with
  | none => (s, Reply.refusal .notHeld)
  | some r => effect r

/-! ### RELEASE (R63, R64) -/

/-- The hold is retired with the follow-ups; the response gives its state and the window's state afterwards (R63). -/
def releaseEffect (w : WindowId) (s : State) (r : RecordId) : State × Reply :=
  let s1 := s.retireAlone r none
  (s1, Reply.success .ok
    (bitsAt 0 7 r.val ||| bitsAt 8 3 (s.record r).phase.code ||| bitsAt 12 2 (s1.window w).state.code) 0)

/-- RELEASE (window). -/
def releaseCommand (c : SlotId) (e : CommandEntry) (s : State) : State × Reply :=
  let w := windowField e.param0
  s.answer (holdChecks c e s) (s.onHold c w (releaseEffect w s))

/-- RELEASE (R63). -/
def execRelease (s : State) : Host.Outcome State Fault Refusal := runCommand 0x05 releaseCommand s

/-! ### RENEW (R66) -/

/-- The hold becomes HELD with its window's lease (R66). -/
def renewEffect (w : WindowId) (s : State) (r : RecordId) : State × Reply :=
  (s.restartHold r (s.record r).mode,
    Reply.success .ok (bitsAt 0 7 r.val ||| bitsAt 8 1 (s.record r).mode.code) (bitsAt 0 16 (s.window w).lease.toNat))

/-- RENEW (window). -/
def renewCommand (c : SlotId) (e : CommandEntry) (s : State) : State × Reply :=
  let w := windowField e.param0
  s.answer (holdChecks c e s ++ [s.checkNotRecalled c e]) (s.onHold c w (renewEffect w s))

/-- RENEW (R66). -/
def execRenew (s : State) : Host.Outcome State Fault Refusal := runCommand 0x06 renewCommand s

/-! ### UPGRADE (R68, R69) -/

/-- The sole holder becomes EXCLUSIVE at once; otherwise the caller becomes, or stays, the pending upgrader (R69). -/
def upgradeEffect (c : SlotId) (w : WindowId) (s : State) (r : RecordId) : State × Reply :=
  if s.holders w = [r] then
    ((s.restartHold r .exclusive).grantPass w,
      Reply.success .ok (bitsAt 0 7 r.val ||| bitsAt 8 1 Mode.exclusive.code) 0)
  else
    let y := Reply.success .queued
      (bitsAt 0 7 r.val ||| bitsAt 8 1 Mode.shared.code ||| bitsAt 16 4 ((s.holders w).length - 1)) 0
    if (s.claim w).upgrader = some c then (s, y)
    else ((s.setClaim w { s.claim w with upgrader := some c }).grantPass w, y)

/-- UPGRADE (window). -/
def upgradeCommand (c : SlotId) (e : CommandEntry) (s : State) : State × Reply :=
  let w := windowField e.param0
  s.answer
    (holdChecks c e s ++
      [s.checkNotRecalled c e, (decide (s.holdMode c w ≠ some .shared), .notShared),
       (decide ((s.claim w).upgrader ≠ none) && decide ((s.claim w).upgrader ≠ some c), .upgradeConflict)])
    (s.onHold c w (upgradeEffect c w s))

/-- UPGRADE (R68, R69). -/
def execUpgrade (s : State) : Host.Outcome State Fault Refusal := runCommand 0x07 upgradeCommand s

/-! ### DOWNGRADE (R71, R72) -/

/-- The hold becomes SHARED and HELD with its window's lease, and a grant pass runs (R71, R72). -/
def downgradeEffect (w : WindowId) (s : State) (r : RecordId) : State × Reply :=
  ((s.restartHold r .shared).grantPass w,
    Reply.success .ok (bitsAt 0 7 r.val ||| bitsAt 8 1 Mode.shared.code) 0)

/-- DOWNGRADE (window). -/
def downgradeCommand (c : SlotId) (e : CommandEntry) (s : State) : State × Reply :=
  let w := windowField e.param0
  s.answer
    (holdChecks c e s ++
      [s.checkNotRecalled c e, (decide (s.holdMode c w ≠ some .exclusive), .notExclusive),
       (decide ((s.window w).share ≠ .sharedAllowed), .notSharable)])
    (s.onHold c w (downgradeEffect w s))

/-- DOWNGRADE (R71). -/
def execDowngrade (s : State) : Host.Outcome State Fault Refusal := runCommand 0x08 downgradeCommand s

/-! ### TRANSFER (R73, R74) -/

/-- Slot `t`'s WAITING EXCLUSIVE record on window `w`, if it has one (R73 step 9). -/
def State.exclusiveWaiter (s : State) (t : SlotId) (w : WindowId) : Option RecordId :=
  match s.waitingOf t w with
  | none => none
  | some r => if (s.record r).mode = .exclusive then some r else none

/-- The caller's hold is retired and T's record becomes the hold, with GRANTED to T; no follow-ups (R74). -/
def transferEffect (t : SlotId) (w : WindowId) (s : State) (r : RecordId) : State × Reply :=
  match s.exclusiveWaiter t w with
  | none => (s, Reply.refusal .noExclusiveWaiter)
  | some q =>
    ((s.retire r).grant q, Reply.success .ok (bitsAt 0 7 r.val ||| bitsAt 16 3 t.val) (bitsAt 0 7 q.val))

/-- TRANSFER (window, T). -/
def transferCommand (c : SlotId) (e : CommandEntry) (s : State) : State × Reply :=
  let w := windowField e.param0
  let t := slotField e.param1
  s.answer
    [s.checkActive c, (!windowInRange e.param0 || !slotInRange e.param1, .badParam), s.checkDefined e,
     s.checkHolds c e,
     (decide ((s.claim w).marker ≠ .idle), .recallPending), s.checkNotRecalled c e,
     (decide (s.holdMode c w ≠ some .exclusive), .notExclusive),
     ((s.exclusiveWaiter t w).isNone, .noExclusiveWaiter)]
    (s.onHold c w (transferEffect t w s))

/-- TRANSFER (R73, R74). -/
def execTransfer (s : State) : Host.Outcome State Fault Refusal := runCommand 0x09 transferCommand s

end Sys2Proof.Machine
end

