-- ==== Sys2Proof/Machine/Lines.lean ====
section
/-! DEFINITION. Machine/Lines.lean: the presence and slot-reset lines (R129, R130), backplane reset (R19, R38, R126,
R145, R156, R166) and POR# (R144). -/

namespace Sys2Proof.Machine

/-! ### Presence lines (R129) -/

/-- The level of PRES[n] becomes `high`. -/
def State.setLine (s : State) (n : SlotId) (high : Bool) : State :=
  { s with presLines :=
      if high then s.presLines ||| BitVec.ofNat 8 (2 ^ n.val) else s.presLines &&& ~~~BitVec.ofNat 8 (2 ^ n.val) }

/-- A rise: an ABSENT slot becomes PRESENT and the master is told (R129). -/
def State.rise (s : State) (n : SlotId) : State :=
  if (s.slot n).state = .absent then (s.setSlot n { s.slot n with state := .present }).reportSlotChange n else s

/-- A fall: an ACTIVE slot exits with reason REMOVED; a PRESENT one becomes ABSENT with its port emptied (R129). -/
def State.fall (s : State) (n : SlotId) : State :=
  match (s.slot n).state with
  | .active => s.exit n .removed
  | .present => ((s.leaveActive n .removed).clearPort n).reportSlotChange n
  | .absent => s

/-- PRES_RISE: the line's level is followed; the change is taken unless POR# is asserted (R129, R144). -/
def execPresRise (n : SlotId) (s : State) : Host.Outcome State Fault Refusal :=
  .next (if s.porAsserted then s.setLine n true else (s.setLine n true).rise n)

/-- PRES_FALL: the line's level is followed; the change is taken unless POR# is asserted (R129, R144). -/
def execPresFall (n : SlotId) (s : State) : Host.Outcome State Fault Refusal :=
  .next (if s.porAsserted then s.setLine n false else (s.setLine n false).fall n)

/-! ### Slot reset (R130) -/

/-- An ACTIVE slot exits with reason RESET; a PRESENT one stays PRESENT with reason RESET and its port cleared; an ABSENT
one ignores it (R130). -/
def State.slotReset (s : State) (n : SlotId) : State :=
  match (s.slot n).state with
  | .active => s.exit n .reset
  | .present => ((s.leaveActive n .reset).clearPortAndParams n).reportSlotChange n
  | .absent => s

/-- SLOT_RESET: taken once, at the assertion of SRST[n]; none is taken while POR# is asserted (R130, R144). -/
def execSlotReset (n : SlotId) (s : State) : Host.Outcome State Fault Refusal :=
  .next (if s.porAsserted then s else s.slotReset n)

/-! ### Backplane reset (R145) -/

/-- An OPEN or DRAINING window becomes CLOSED with its definition kept (R19). -/
def WindowRecord.closedByReset (d : WindowRecord) : WindowRecord :=
  match d.state with
  | .opened => { d with state := .closed }
  | .draining => { d with state := .closed }
  | .closed => d
  | .undefined => d

/-- An ACTIVE slot becomes PRESENT with reason RESET and silence counter 0; another keeps its record (R145). -/
def SlotRecord.inactiveByReset (n : SlotRecord) : SlotRecord :=
  match n.state with
  | .active => { n with state := .present, exitReason := .reset, silence := 0 }
  | .present => n
  | .absent => n

/-- The state a backplane reset leaves (R19, R38, R81, R126, R145, R156, R166). -/
def State.backplaneReset (s : State) : State :=
  { s with
    windows := s.windows.map WindowRecord.closedByReset
    records := Vector.replicate 128 ClaimRecord.cleared
    claims := Vector.replicate 32 WindowClaims.cleared
    slots := s.slots.map SlotRecord.inactiveByReset
    master := none
    ports := Vector.replicate 8 SlotPort.cleared
    notices := Vector.replicate 8 []
    pointer := 7
    inHand := none }

/-- BACKPLANE_RESET: taken once, at the assertion of BRST#; none is taken while POR# is asserted (R144, R145). -/
def execBackplaneReset (s : State) : Host.Outcome State Fault Refusal :=
  .next (if s.porAsserted then s else s.backplaneReset)

/-! ### Power-on reset (R144) -/

/-- POWER_ON_RESET: POR# is deasserted; every item takes its power-on value, and the presence lines and eligibility
straps are sampled as they stand (R144). Where POR# is not asserted the row stands for a whole pulse of POR#, with the same
result (DESIGN CHOICE, log entry 15). -/
def execPowerOnReset (elig : BitVec 8) (s : State) : Host.Outcome State Fault Refusal :=
  .next { State.powerOn s.presLines elig with pending := s.pending }

/-- POR_ASSERTED: the cycle in hand is dropped, no output is driven, and nothing is taken until POR# is deasserted
(R126, R144). -/
def execPorAsserted (s : State) : Host.Outcome State Fault Refusal :=
  .next { s with porAsserted := true, inHand := none, portAnswer := .idle }

end Sys2Proof.Machine
end

