-- ==== Sys2Proof/Machine/PortCycles.lean ====
section
/-! DEFINITION. Machine/PortCycles.lean: control-block cycles (R151, R152, R154, R157 to R160, R163, R164): RESP_POP,
NOTICE0_READ, NOTICE_POP, ATTN_EN_WRITE, CONTROL_BLOCK_WRITE and CONTROL_BLOCK_READ. -/

namespace Sys2Proof.Machine

/-! ### The effect of an accepted access -/

/-- A write to RESP_POP removes the head response, if there is one (R163). -/
def State.popResponse (s : State) (n : SlotId) : State :=
  s.setPort n { s.port n with responses := (s.port n).responses.tail }

/-- A write to NOTICE_POP removes the head notice, if there is one; the holding word stays (R152). -/
def State.popNotice (s : State) (n : SlotId) : State := s.setQueue n (s.queue n).tail

/-- A write to ATTN_EN sets or clears the attention enable from bit 0 (R154, R158). -/
def State.writeAttn (s : State) (n : SlotId) (value : Word) : State :=
  s.setPort n { s.port n with attnEnable := value.getLsbD 0 }

/-- A read of NOTICE0 copies the head notice's detail and tag into the holding word, 0 for an empty queue (R151). -/
def State.presentNotice (s : State) (n : SlotId) : State :=
  s.setPort n { s.port n with holding := noticeHoldingWord (s.queue n) }

/-- A write to COMMAND (opcode in bits 7:0, tag in bits 15:8) pushes an entry with a copy of the parameters (R160). -/
def State.pushCommand (s : State) (n : SlotId) (value : Word) : State :=
  s.setPort n
    { s.port n with
      commands := (s.port n).commands ++
        [{ opcode := lowByte value, tag := value.extractLsb' 8 8, param0 := (s.port n).param0,
           param1 := (s.port n).param1, param2 := (s.port n).param2 }] }

/-- The slot's command FIFO is full (R160). -/
def State.commandsFull (s : State) (n : SlotId) : Bool := decide (Config.fifoDepth ≤ (s.port n).commands.length)

/-! ### A control-block cycle -/

/-- A control-block cycle is presented after the cycle before it has ended (R111), and answered on the backplane. -/
def State.answerPort (s : State) (a : PortAnswer) : State := { s with inHand := none, portAnswer := a }

/-- The cycle is refused with an error termination (R157). -/
def State.refuseAccess (s : State) : State := s.answerPort .refused

/-- The cycle is accepted; `data` is what a read returns, 0 for a write (R157). -/
def State.acceptAccess (s : State) (data : Word) : State := s.answerPort (.accepted data)

/-- A control-block cycle of slot `n`: none is taken while POR# is asserted (R144); an ABSENT slot's is refused and
changes nothing (R157); an ACTIVE slot's reloads its silence counter whether accepted or refused (R158). -/
def State.portCycle (s : State) (n : SlotId) (access : State → State) : State :=
  if s.porAsserted then s
  else if (s.slot n).state = .absent then s.refuseAccess
  else access (s.reloadSilence n)

/-- A 32-bit access at a multiple of 4 (R157). -/
def accessAligned (addr : Word) (width : Nat) : Bool := decide (width = 32) && decide (addr.toNat % 4 = 0)

/-- Offset of an address in the control block. -/
def portOffset (addr : Word) : Nat := addr.toNat - Config.controlLow

/-- An accepted write of slot `n` at an offset, or its refusal (R157). -/
def State.writePort (s : State) (n : SlotId) (offset : Nat) (value : Word) : State :=
  match offset with
  | 0x04 => (s.writeAttn n value).acceptAccess 0
  | 0x08 => (s.setPort n { s.port n with param0 := value }).acceptAccess 0
  | 0x0C => (s.setPort n { s.port n with param1 := value }).acceptAccess 0
  | 0x10 => (s.setPort n { s.port n with param2 := value }).acceptAccess 0
  | 0x14 => if s.commandsFull n then s.refuseAccess else (s.pushCommand n value).acceptAccess 0
  | 0x24 => (s.popResponse n).acceptAccess 0
  | 0x30 => (s.popNotice n).acceptAccess 0
  | _ => s.refuseAccess

/-- An accepted read of slot `n` at an offset, with the data it returns, or its refusal (R157). -/
def State.readPort (s : State) (n : SlotId) (offset : Nat) : State :=
  match offset with
  | 0x00 => s.acceptAccess (s.status n)
  | 0x04 => s.acceptAccess (bitAt 0 (s.port n).attnEnable)
  | 0x08 => s.acceptAccess (s.port n).param0
  | 0x0C => s.acceptAccess (s.port n).param1
  | 0x10 => s.acceptAccess (s.port n).param2
  | 0x14 => s.acceptAccess 0
  | 0x18 => s.acceptAccess ((s.port n).respWord 0)
  | 0x1C => s.acceptAccess ((s.port n).respWord 1)
  | 0x20 => s.acceptAccess ((s.port n).respWord 2)
  | 0x24 => s.acceptAccess 0
  | 0x28 => (s.presentNotice n).acceptAccess (noticeHeadWord (s.queue n))
  | 0x2C => s.acceptAccess (s.port n).holding
  | 0x30 => s.acceptAccess 0
  | _ => s.refuseAccess

/-! ### The steps -/

/-- RESP_POP: the value written is ignored (R163). -/
def execRespPop (n : SlotId) (_value : Word) (s : State) : Host.Outcome State Fault Refusal :=
  .next (s.portCycle n fun s => (s.popResponse n).acceptAccess 0)

/-- NOTICE0_READ (R151). -/
def execNotice0Read (n : SlotId) (s : State) : Host.Outcome State Fault Refusal :=
  .next (s.portCycle n fun s => (s.presentNotice n).acceptAccess (noticeHeadWord (s.queue n)))

/-- NOTICE_POP: the value written is ignored (R152). -/
def execNoticePop (n : SlotId) (_value : Word) (s : State) : Host.Outcome State Fault Refusal :=
  .next (s.portCycle n fun s => (s.popNotice n).acceptAccess 0)

/-- ATTN_EN_WRITE (R154). -/
def execAttnEnWrite (n : SlotId) (value : Word) (s : State) : Host.Outcome State Fault Refusal :=
  .next (s.portCycle n fun s => (s.writeAttn n value).acceptAccess 0)

/-- CONTROL_BLOCK_WRITE. The JC8 takes no part in a cycle outside the control block and the shared space (R14, R111). -/
def execControlBlockWrite (n : SlotId) (addr : Word) (width : Nat) (value : Word) (s : State) :
    Host.Outcome State Fault Refusal :=
  .next
    (if inControlBlock addr then
      s.portCycle n fun s =>
        if accessAligned addr width then s.writePort n (portOffset addr) value else s.refuseAccess
    else s)

/-- CONTROL_BLOCK_READ. The JC8 takes no part in a cycle outside the control block and the shared space (R14, R111). -/
def execControlBlockRead (n : SlotId) (addr : Word) (width : Nat) (s : State) : Host.Outcome State Fault Refusal :=
  .next
    (if inControlBlock addr then
      s.portCycle n fun s => if accessAligned addr width then s.readPort n (portOffset addr) else s.refuseAccess
    else s)

end Sys2Proof.Machine
end

