-- ==== Sys2Proof/Machine/Queries.lean ====
section
/-! DEFINITION. Machine/Queries.lean: QUERY_WINDOW (R17, R167) and QUERY_SLOT (R143, R168). -/

namespace Sys2Proof.Machine

/-- QUERY_WINDOW's extension bits: RESP0 22:21 window state, 23 view (R167). Bits 31:24, which R167 assigns to no field,
read 0 (DESIGN CHOICE, log entry 13). -/
def windowExt (d : WindowRecord) (claimsView : Bool) : BitVec 11 :=
  (bitsAt 0 2 d.state.code ||| bitAt 2 claimsView).setWidth 11

/-- The view of the window that the view flag, PARAM0 bit 8, chooses (R17, R167). -/
def windowView (c : SlotId) (w : WindowId) (claimsView : Bool) (s : State) : Reply :=
  if claimsView then
    { outcome := .ok, ext := windowExt (s.window w) true, word1 := s.ownRecordWord c w, word2 := s.claimsWord w }
  else
    { outcome := .ok, ext := windowExt (s.window w) false, word1 := (s.window w).word1, word2 := (s.window w).word2 }

/-- QUERY_WINDOW (window, view): an UNDEFINED window is not refused (R17). -/
def queryWindowCommand (c : SlotId) (e : CommandEntry) (s : State) : State × Reply :=
  s.answer [s.checkSeated c, checkWindowRange e]
    (s, windowView c (windowField e.param0) (flagBit e.param0 8) s)

/-- QUERY_WINDOW (R17). -/
def execQueryWindow (s : State) : Host.Outcome State Fault Refusal := runCommand 0x0A queryWindowCommand s

/-- QUERY_SLOT's extension bits: RESP0 22:21 slot state, 25:23 exit reason, 31:26 records in use (R168). -/
def slotExt (s : State) (n : SlotId) : BitVec 11 :=
  (bitsAt 0 2 (s.slot n).state.code ||| bitsAt 2 3 (s.slot n).exitReason.code ||| bitsAt 5 6 (s.inUse n)).setWidth 11

/-- The slot's record (R143, R168). -/
def slotView (n : SlotId) (s : State) : Reply :=
  { outcome := .ok, ext := slotExt s n, word1 := s.slotWord n, word2 := (s.slot n).identity }

/-- QUERY_SLOT (slot): any slot from the master, its own from another caller (R143). -/
def querySlotCommand (c : SlotId) (e : CommandEntry) (s : State) : State × Reply :=
  let t := slotField e.param0
  s.answer
    [s.checkSeated c, (!slotInRange e.param0, .badParam),
     (decide (s.master ≠ some c) && decide (t ≠ c), .notMaster)]
    (s, slotView t s)

/-- QUERY_SLOT (R143). -/
def execQuerySlot (s : State) : Host.Outcome State Fault Refusal := runCommand 0x0B querySlotCommand s

end Sys2Proof.Machine
end

