-- ==== Sys2Proof/Machine/SlotCommands.lean ====
section
/-! DEFINITION. Machine/SlotCommands.lean: JOIN, LEAVE, TAKE_MASTER, EVICT, SET_QUOTA, SET_ELIGIBLE, SET_TIMING and
HAND_MASTER (chapter 8), and the take of an unknown opcode (R165). -/

namespace Sys2Proof.Machine

/-! ### JOIN (R131) -/

/-- The slot becomes ACTIVE, and the master is told (R131). -/
def joinEffect (c : SlotId) (e : CommandEntry) (s : State) : State :=
  (s.setSlot c
    { s.slot c with
      state := .active, exitReason := .none, identity := e.param0, slotClass := lowByte e.param1,
      silence := s.silenceLimit }).reportSlotChange c

/-- JOIN (identity, class). -/
def joinCommand (c : SlotId) (e : CommandEntry) (s : State) : State × Reply :=
  s.answer [(decide ((s.slot c).state = .active), .alreadyActive), s.checkSeated c]
    (joinEffect c e s, Reply.success .ok (bitsAt 0 3 c.val) 0)

/-- JOIN (R131). -/
def execJoin (s : State) : Host.Outcome State Fault Refusal := runCommand 0x01 joinCommand s

/-! ### LEAVE (R132) -/

/-- LEAVE; the response counts the records that exit processing retired. -/
def leaveCommand (c : SlotId) (_e : CommandEntry) (s : State) : State × Reply :=
  s.answer [s.checkActive c] (s.exit c .left, Reply.success .ok (bitsAt 0 6 (s.inUse c)) 0)

/-- LEAVE (R132). -/
def execLeave (s : State) : Host.Outcome State Fault Refusal := runCommand 0x02 leaveCommand s

/-! ### TAKE_MASTER (R140) -/

/-- TAKE_MASTER. -/
def takeMasterCommand (c : SlotId) (_e : CommandEntry) (s : State) : State × Reply :=
  s.answer
    [s.checkActive c, (s.master.isSome, .roleTaken), (!s.isEligible c, .notEligible)]
    ((s.setMaster (some c)).post c .role (.role .gained), Reply.success .ok 0 0)

/-- TAKE_MASTER (R140). -/
def execTakeMaster (s : State) : Host.Outcome State Fault Refusal := runCommand 0x0C takeMasterCommand s

/-! ### EVICT (R133) -/

/-- EVICT (S). -/
def evictCommand (c : SlotId) (e : CommandEntry) (s : State) : State × Reply :=
  let t := slotField e.param0
  s.answer
    [s.checkActive c, s.checkMaster c, (!slotInRange e.param0 || decide (t = c), .badParam),
     (decide ((s.slot t).state ≠ .active), .slotNotActive)]
    (s.exit t .evicted, Reply.success .ok (bitsAt 0 3 t.val ||| bitsAt 8 6 (s.inUse t)) 0)

/-- EVICT (R133). -/
def execEvict (s : State) : Host.Outcome State Fault Refusal := runCommand 0x15 evictCommand s

/-! ### SET_QUOTA (R138) -/

/-- SET_QUOTA (slot, quota). -/
def setQuotaCommand (c : SlotId) (e : CommandEntry) (s : State) : State × Reply :=
  let t := slotField e.param0
  let q := (lowByte e.param1).toNat
  s.answer
    [s.checkActive c, s.checkMaster c, (!slotInRange e.param0 || !e.quotaInRange, .badParam),
     (decide (q < s.inUse t), .quotaBelowUse)]
    (s.setSlot t { s.slot t with quota := q },
      Reply.success .ok (bitsAt 0 3 t.val ||| bitsAt 8 7 q ||| bitsAt 16 6 (s.inUse t)) 0)

/-- SET_QUOTA (R138). -/
def execSetQuota (s : State) : Host.Outcome State Fault Refusal := runCommand 0x16 setQuotaCommand s

/-! ### SET_ELIGIBLE (R141) -/

/-- SET_ELIGIBLE (set). -/
def setEligibleCommand (c : SlotId) (e : CommandEntry) (s : State) : State × Reply :=
  s.answer [s.checkActive c, s.checkMaster c, (!(lowByte e.param0).getLsbD c.val, .badParam)]
    ({ s with eligible := lowByte e.param0 }, Reply.success .ok (bitsAt 0 8 (lowByte e.param0).toNat) 0)

/-- SET_ELIGIBLE (R141). -/
def execSetEligible (s : State) : Host.Outcome State Fault Refusal := runCommand 0x17 setEligibleCommand s

/-! ### SET_TIMING (R139) -/

/-- Every ACTIVE slot's silence counter is loaded with the silence limit (R139). -/
def State.reloadAllSilence (s : State) : State := allSlots.foldl State.reloadSilence s

/-- A changed tick select takes effect and restarts the divider; an unchanged one leaves it (R80). -/
def State.selectTick (s : State) (select : Fin 4) : State :=
  if s.tickSelect = select then s else { s with tickSelect := select, divider := 0 }

/-- SET_TIMING (tick select, silence limit). -/
def setTimingCommand (c : SlotId) (e : CommandEntry) (s : State) : State × Reply :=
  let select := Fin.ofNat 4 (lowByte e.param0).toNat
  s.answer [s.checkActive c, s.checkMaster c, (!e.tickSelectInRange, .badParam)]
    ((State.reloadAllSilence { s with silenceLimit := e.silenceField }).selectTick select,
      Reply.success .ok (bitsAt 0 2 select.val) (bitsAt 0 16 e.silenceField.toNat))

/-- SET_TIMING (R139). -/
def execSetTiming (s : State) : Host.Outcome State Fault Refusal := runCommand 0x18 setTimingCommand s

/-! ### HAND_MASTER (R141) -/

/-- HAND_MASTER (T). -/
def handMasterCommand (c : SlotId) (e : CommandEntry) (s : State) : State × Reply :=
  let t := slotField e.param0
  s.answer
    [s.checkActive c, s.checkMaster c, (!slotInRange e.param0 || decide (t = c), .badParam),
     (decide ((s.slot t).state ≠ .active), .slotNotActive), (!s.isEligible t, .notEligible)]
    (((s.setMaster (some t)).post c .role (.role .lost)).post t .role (.role .gained),
      Reply.success .ok (bitsAt 0 3 t.val) 0)

/-- HAND_MASTER (R141). -/
def execHandMaster (s : State) : Host.Outcome State Fault Refusal := runCommand 0x19 handMasterCommand s

/-! ### UNKNOWN_OPCODE (R165) -/

/-- An opcode not in the catalogue is answered with BAD_OPCODE and changes nothing. -/
def unknownCommand (_c : SlotId) (_e : CommandEntry) (s : State) : State × Reply :=
  (s, Reply.refusal .badOpcode)

/-- UNKNOWN_OPCODE (R165 step 1). -/
def execUnknownOpcode (s : State) : Host.Outcome State Fault Refusal :=
  .next (s.takeWhere (fun x => !catalogue.contains x) unknownCommand)

end Sys2Proof.Machine
end

