-- ==== Sys2Proof/Machine/Ticks.lean ====
section
/-! DEFINITION. Machine/Ticks.lean: the Tick Generator and the tick at the Claim Table and the Slot Table (chapters 5
and 8.3): TICK, CLAIM_TABLE_TICK, SLOT_TABLE_TICK, WAIT_TIMEOUT, LEASE_EXPIRY, GRACE_EXPIRY, RECALL_LIMIT_EXPIRY and
SILENCE_EXPIRY. -/

namespace Sys2Proof.Machine

/-! ### The Tick Generator (R79) -/

/-- One tick is issued to the Claim Table and to the Slot Table, and the divider begins the next period (R79, R82). -/
def State.issueTick (s : State) : State :=
  { s with divider := 0, claimTicksDue := s.claimTicksDue + 1, slotTicksDue := s.slotTicksDue + 1 }

/-- TICK: no tick is issued while POR# is asserted (R79, R144). -/
def execTick (s : State) : Host.Outcome State Fault Refusal := .next (if s.porAsserted then s else s.issueTick)

/-- One REFCLK cycle passes while no command waits: the divider counts it, and a completed period issues a tick (R79;
DESIGN CHOICE, log entry 3). -/
def State.refclk (s : State) : State :=
  if s.porAsserted then s
  else if Config.tickPeriod s.tickSelect ≤ s.divider + 1 then s.issueTick
  else { s with divider := s.divider + 1 }

/-! ### The tick at the Claim Table (R83) -/

/-- The record counts down on a tick (R24). -/
def ClaimRecord.counts (c : ClaimRecord) : Bool :=
  match c.phase with
  | .free => false
  | .waiting => decide (c.counter ≠ 0)
  | .held => decide (c.counter ≠ 0)
  | .lapsing => true
  | .recalled => true

/-- The record's counter reaches 0 on the next tick. -/
def ClaimRecord.runsOut (c : ClaimRecord) : Bool := c.counts && decide (c.counter = 1)

/-- The record after its countdown; a counter at 0 stays there. -/
def ClaimRecord.countDown (c : ClaimRecord) : ClaimRecord :=
  { c with counter := if c.counter = 0 then 0 else c.counter - 1 }

/-- Every counting record on window `w` has its counter decreased by one (R83 step 1). -/
def State.countWindow (s : State) (w : WindowId) : State :=
  { s with records := s.records.map fun c => if c.counts = true ∧ c.window = w then c.countDown else c }

/-- The records on window `w` whose counters reach 0 on this tick, in record order (R83 step 2). -/
def State.runningOut (s : State) (w : WindowId) : List RecordId :=
  allRecords.filter fun r => (s.record r).runsOut && decide ((s.record r).window = w)

/-- The transition of a record whose counter has reached 0, with its notice (R83 step 2, R84 to R87). -/
def State.expire (s : State) (r : RecordId) : State :=
  let c := s.record r
  match c.phase with
  | .free => s
  | .waiting => (s.retire r).post c.slot (.window c.window) (.withdrawn .timedOut)
  | .held =>
    (s.setPhase r .lapsing ((s.window c.window).grace.setWidth 16)).post c.slot (.window c.window)
      (.lapseWarning (s.window c.window).grace)
  | .lapsing => (s.retire r).post c.slot (.window c.window) .lapsed
  | .recalled => (s.retire r).post c.slot (.window c.window) .forced

/-- The visit to window `w`: count, transitions in record order, follow-ups once if any record was retired (R83, R88). -/
def State.tickWindow (s : State) (w : WindowId) : State :=
  let due := s.runningOut w
  let s2 := due.foldl State.expire (s.countWindow w)
  if due.any fun r => decide ((s.record r).phase ≠ .held) then
    s2.followUps w (due.any fun r => decide ((s.record r).phase = .lapsing) || decide ((s.record r).phase = .recalled))
      none
  else s2

/-- The tick at the Claim Table visits windows 0 to 31 (R83). -/
def State.tickClaims (s : State) : State := allWindows.foldl State.tickWindow s

/-- CLAIM_TABLE_TICK: the block takes the next issued tick whole (R82, R83). Where the Tick Generator has issued none that
the block has not taken, or POR# is asserted (R144), no such tick can be taken and nothing changes (DEDUCED, log entry
5). -/
def execClaimTableTick (s : State) : Host.Outcome State Fault Refusal :=
  .next
    (if s.porAsserted = true ∨ s.claimTicksDue = 0 then s
    else State.tickClaims { s with claimTicksDue := s.claimTicksDue - 1 })

/-! ### The last tick of one record -/

/-- The last tick of one record in a given state: its counter, at 1, reaches 0, and it makes its transition with the
follow-ups (R84 to R87). Where the record is not at its last tick in that state, nothing happens (log entry 4). -/
def State.lastTick (s : State) (r : RecordId) (phase : ClaimPhase) : State :=
  let c := s.record r
  if s.porAsserted = false ∧ c.phase = phase ∧ c.counter = 1 then
    if phase = .held then s.expire r else (s.expire r).followUps c.window phase.isHold none
  else s

/-- WAIT_TIMEOUT (R84). -/
def execWaitTimeout (r : RecordId) (s : State) : Host.Outcome State Fault Refusal := .next (s.lastTick r .waiting)

/-- LEASE_EXPIRY (R85). -/
def execLeaseExpiry (r : RecordId) (s : State) : Host.Outcome State Fault Refusal := .next (s.lastTick r .held)

/-- GRACE_EXPIRY (R86). -/
def execGraceExpiry (r : RecordId) (s : State) : Host.Outcome State Fault Refusal := .next (s.lastTick r .lapsing)

/-- RECALL_LIMIT_EXPIRY (R87). -/
def execRecallLimitExpiry (r : RecordId) (s : State) : Host.Outcome State Fault Refusal :=
  .next (s.lastTick r .recalled)

/-! ### The tick at the Slot Table (R134) -/

/-- The visit to slot `n`: an ACTIVE slot's silence counter is decreased, and a slot whose counter reaches 0 exits with
reason SILENT (R134). -/
def State.tickSlot (s : State) (n : SlotId) : State :=
  if (s.slot n).state = .active then
    if (s.slot n).silence = 1 then s.exit n .silent
    else s.setSlot n { s.slot n with silence := if (s.slot n).silence = 0 then 0 else (s.slot n).silence - 1 }
  else s

/-- The tick at the Slot Table visits slots 0 to 7 while silence is monitored (R134). -/
def State.tickSlots (s : State) : State := if s.silenceLimit = 0 then s else allSlots.foldl State.tickSlot s

/-- SLOT_TABLE_TICK: the block takes the next issued tick whole (R82, R134), and changes nothing where none is due or POR#
is asserted, as for the tick at the Claim Table (DEDUCED, log entry 5). -/
def execSlotTableTick (s : State) : Host.Outcome State Fault Refusal :=
  .next
    (if s.porAsserted = true ∨ s.slotTicksDue = 0 then s
    else State.tickSlots { s with slotTicksDue := s.slotTicksDue - 1 })

/-- The last silence tick of one slot: its counter, at 1, reaches 0 while silence is monitored, and it exits with reason
SILENT (R134). Where the slot is not at its last tick, nothing happens (log entry 4). -/
def State.lastSilence (s : State) (n : SlotId) : State :=
  if s.porAsserted = false ∧ s.silenceLimit ≠ 0 ∧ (s.slot n).state = .active ∧ (s.slot n).silence = 1 then
    s.exit n .silent
  else s

/-- SILENCE_EXPIRY (R134). -/
def execSilenceExpiry (n : SlotId) (s : State) : Host.Outcome State Fault Refusal := .next (s.lastSilence n)

end Sys2Proof.Machine
end

