-- ==== Sys2Proof/Machine/WindowCommands.lean ====
section
/-! DEFINITION. Machine/WindowCommands.lean: DEFINE, UNDEFINE, OPEN and CLOSE (chapter 1), and RECALL (chapter 6). -/

namespace Sys2Proof.Machine

/-- The result of a window command: the window and its state afterwards (R5, 10.8). -/
def windowReply (s : State) (w : WindowId) : Reply :=
  Reply.success .ok (bitsAt 0 8 w.val ||| bitsAt 8 2 (s.window w).state.code) 0

/-- A window command's effect, answered with the window's state once it is complete (R5). -/
def windowDone (w : WindowId) (s : State) : State × Reply := (s, windowReply s w)

/-- The state of a window becomes `x`; its definition stays. -/
def State.setWindowState (s : State) (w : WindowId) (x : WindowState) : State :=
  s.setWindow w { s.window w with state := x }

/-- The checks of a master-only window command up to the window-defined step (R5). -/
def windowChecks (c : SlotId) (e : CommandEntry) (s : State) : List (Bool × OutcomeCode) :=
  [s.checkActive c, s.checkMaster c, checkWindowRange e, s.checkDefined e]

/-- The window is OPEN or DRAINING: DEFINE and UNDEFINE are refused (R6, R10). -/
def State.checkNotBusy (s : State) (w : WindowId) : Bool × OutcomeCode :=
  (decide ((s.window w).state = .opened) || decide ((s.window w).state = .draining), .windowBusy)

/-! ### DEFINE (R6 to R9) -/

/-- DEFINE: range checks, state check, overlap check, in that order (R6). -/
def defineCommand (c : SlotId) (e : CommandEntry) (s : State) : State × Reply :=
  let w := windowField e.param0
  s.answer
    [s.checkActive c, s.checkMaster c, (!windowInRange e.param0 || e.definition.isNone, .badParam)]
    (match e.definition with
     | none => (s, Reply.refusal .badParam)
     | some d =>
       s.answer [s.checkNotBusy w, (s.overlapsOther w d, .overlap)] (windowDone w (s.setWindow w d)))

/-- DEFINE (R6). -/
def execDefine (s : State) : Host.Outcome State Fault Refusal := runCommand 0x10 defineCommand s

/-! ### UNDEFINE (R10) -/

/-- UNDEFINE (window). -/
def undefineCommand (c : SlotId) (e : CommandEntry) (s : State) : State × Reply :=
  let w := windowField e.param0
  s.answer (windowChecks c e s ++ [s.checkNotBusy w]) (windowDone w (s.setWindow w .cleared))

/-- UNDEFINE (R10). -/
def execUndefine (s : State) : Host.Outcome State Fault Refusal := runCommand 0x11 undefineCommand s

/-! ### OPEN (R11) -/

/-- A CLOSED window becomes OPEN and gets a grant pass; an OPEN one stays as it is (R11). -/
def State.openEffect (s : State) (w : WindowId) : State :=
  if (s.window w).state = .closed then (s.setWindowState w .opened).grantPass w else s

/-- OPEN (window). -/
def openCommand (c : SlotId) (e : CommandEntry) (s : State) : State × Reply :=
  let w := windowField e.param0
  s.answer
    (windowChecks c e s ++ [(decide ((s.window w).state = .draining), .windowBusy)])
    (windowDone w (s.openEffect w))

/-- OPEN (R11). -/
def execOpenWindow (s : State) : Host.Outcome State Fault Refusal := runCommand 0x12 openCommand s

/-! ### Recalling holds, shared by RECALL and CLOSE -/

/-- One hold becomes RECALLED with the window's recall limit, and its slot receives RECALLED, with the upgrade-cancelled
flag if it is `upgrader`; a hold already RECALLED keeps its counter and gets no notice (R95, R102 step 3). -/
def State.recallHold (w : WindowId) (upgrader : Option SlotId) (s : State) (r : RecordId) : State :=
  if (s.record r).phase = .recalled then s
  else
    (s.setPhase r .recalled ((s.window w).recallLimit.setWidth 16)).post (s.record r).slot (.window w)
      (.recalled (s.window w).recallLimit (decide (upgrader = some (s.record r).slot)))

/-- Every hold on the window is recalled, in record order. -/
def State.recallHolds (s : State) (w : WindowId) (upgrader : Option SlotId) : State :=
  (s.holders w).foldl (State.recallHold w upgrader) s

/-! ### CLOSE (R12, R102, R103) -/

/-- One waiting claim is withdrawn by a CLOSE (R102 step 1). -/
def State.withdrawForClose (w : WindowId) (s : State) (r : RecordId) : State :=
  (s.retire r).post (s.record r).slot (.window w) (.withdrawn .closing)

/-- CLOSE of an OPEN window: waiters withdrawn, upgrader cleared, holds recalled, marker cleared, window DRAINING; with no
hold, the window is CLOSED at once with WINDOW_CLOSED to the master (R12, R102, R103). -/
def State.closeOpen (s : State) (w : WindowId) : State :=
  let upgrader := (s.claim w).upgrader
  let s1 := (s.claim w).waitList.foldl (State.withdrawForClose w) s
  let s2 := s1.setClaim w { s1.claim w with upgrader := none }
  if s2.holders w = [] then (s2.setWindowState w .closed).postToMaster none (.window w) .windowClosed
  else
    let s3 := s2.recallHolds w upgrader
    (s3.setClaim w { s3.claim w with marker := .idle }).setWindowState w .draining

/-- CLOSE acts on an OPEN window alone; a CLOSED or DRAINING one stays as it is (R12). -/
def State.closeEffect (s : State) (w : WindowId) : State :=
  if (s.window w).state = .opened then s.closeOpen w else s

/-- CLOSE (window). -/
def closeCommand (c : SlotId) (e : CommandEntry) (s : State) : State × Reply :=
  let w := windowField e.param0
  s.answer (windowChecks c e s) (windowDone w (s.closeEffect w))

/-- CLOSE (R12). -/
def execCloseWindow (s : State) : Host.Outcome State Fault Refusal := runCommand 0x13 closeCommand s

/-! ### RECALL (R94 to R97) -/

/-- The beneficiary's record stands at the head of the wait list with its flag set: its waiting record moved there, or a
new EXCLUSIVE one taken from the pool (R96). The record's number is answered with the state. -/
def State.placeBeneficiary (s : State) (w : WindowId) (b : SlotId) : State × Option RecordId :=
  match s.waitingOf b w with
  | some r =>
    ((s.setRecord r { s.record r with beneficiary := true }).setClaim w
      { s.claim w with waitList := r :: (s.claim w).waitList.erase r }, some r)
  | none =>
    match s.lowestFree with
    | none => (s, none)
    | some r =>
      ((s.fillRecord r b w .waiting .exclusive 0 0 true).setClaim w
        { s.claim w with waitList := r :: (s.claim w).waitList }, some r)

/-- The beneficiary given by the command, if any, is placed (R95 step 5, R97 step 1). -/
def State.placeGiven (s : State) (w : WindowId) : Option SlotId → State × Option RecordId
  | none => (s, none)
  | some b => s.placeBeneficiary w b

/-- RECALL's result fields (10.8). -/
def recallReply (holds : Nat) (record : Option RecordId) : Reply :=
  Reply.success .ok
    (bitsAt 0 4 holds ||| bitAt 4 (decide (holds ≠ 0)) ||| bitAt 5 record.isSome)
    (match record with
     | none => 0
     | some r => bitsAt 0 7 r.val)

/-- RECALL of a held window sets the marker and runs no grant pass (R95); of an unheld one it sets no marker, and the
grant pass grants the beneficiary (R97). -/
def recallEffect (w : WindowId) (b : Option SlotId) (s : State) : State × Reply :=
  if s.holders w = [] then
    let p := s.placeGiven w b
    (p.1.grantPass w, recallReply 0 p.2)
  else
    let s1 := s.recallHolds w (s.claim w).upgrader
    let p := (s1.setClaim w { s1.claim w with upgrader := none, marker := .inProgress b }).placeGiven w b
    (p.1, recallReply (s.holders w).length p.2)

/-- RECALL's checks of the beneficiary, if one is given (R94 steps 8 to 11). -/
def beneficiaryChecks (e : CommandEntry) (s : State) : List (Bool × OutcomeCode) :=
  let w := windowField e.param0
  match e.beneficiary with
  | none => []
  | some b =>
    [(decide ((s.slot b).state ≠ .active), .slotNotActive),
     ((s.holdOf b w).isSome, .alreadyHeld),
     ((s.waitingOf b w).isNone && s.quotaReached b, .quotaFull),
     ((s.waitingOf b w).isNone && s.lowestFree.isNone, .poolEmpty)]

/-- RECALL (window, beneficiary). -/
def recallCommand (c : SlotId) (e : CommandEntry) (s : State) : State × Reply :=
  let w := windowField e.param0
  s.answer
    ([s.checkActive c, s.checkMaster c,
      (!windowInRange e.param0 || (e.beneficiaryGiven && !slotInRange e.param1), .badParam), s.checkDefined e,
      (decide ((s.window w).state ≠ .opened), .windowClosed),
      (decide ((s.claim w).marker ≠ .idle), .recallPending)] ++ beneficiaryChecks e s)
    (recallEffect w e.beneficiary s)

/-- RECALL (R94). -/
def execRecallWindow (s : State) : Host.Outcome State Fault Refusal := runCommand 0x14 recallCommand s

end Sys2Proof.Machine
end

