-- ==== Sys2Proof/Machine/Dispatch.lean ====
section
/-! DEFINITION. Machine/Dispatch.lean: the step of each row of the table. -/

namespace Sys2Proof.Machine

/-- The effect of one step on everything but the queue. -/
def exec (i : Instr) (s : State) : Host.Outcome State Fault Refusal :=
  match i with
  | .join => Sys2Proof.Machine.execJoin s
  | .leave => Sys2Proof.Machine.execLeave s
  | .claim => Sys2Proof.Machine.execClaim s
  | .withdraw => Sys2Proof.Machine.execWithdraw s
  | .release => Sys2Proof.Machine.execRelease s
  | .renew => Sys2Proof.Machine.execRenew s
  | .upgrade => Sys2Proof.Machine.execUpgrade s
  | .downgrade => Sys2Proof.Machine.execDowngrade s
  | .transfer => Sys2Proof.Machine.execTransfer s
  | .queryWindow => Sys2Proof.Machine.execQueryWindow s
  | .querySlot => Sys2Proof.Machine.execQuerySlot s
  | .takeMaster => Sys2Proof.Machine.execTakeMaster s
  | .define => Sys2Proof.Machine.execDefine s
  | .undefine => Sys2Proof.Machine.execUndefine s
  | .openWindow => Sys2Proof.Machine.execOpenWindow s
  | .closeWindow => Sys2Proof.Machine.execCloseWindow s
  | .recallWindow => Sys2Proof.Machine.execRecallWindow s
  | .evict => Sys2Proof.Machine.execEvict s
  | .setQuota => Sys2Proof.Machine.execSetQuota s
  | .setEligible => Sys2Proof.Machine.execSetEligible s
  | .setTiming => Sys2Proof.Machine.execSetTiming s
  | .handMaster => Sys2Proof.Machine.execHandMaster s
  | .unknownOpcode => Sys2Proof.Machine.execUnknownOpcode s
  | .respPop n value => Sys2Proof.Machine.execRespPop n value s
  | .notice0Read n => Sys2Proof.Machine.execNotice0Read n s
  | .noticePop n value => Sys2Proof.Machine.execNoticePop n value s
  | .attnEnWrite n value => Sys2Proof.Machine.execAttnEnWrite n value s
  | .controlBlockWrite n addr width value => Sys2Proof.Machine.execControlBlockWrite n addr width value s
  | .cycleCheck n addr kind width => Sys2Proof.Machine.execCycleCheck n addr kind width s
  | .cycleEnd => Sys2Proof.Machine.execCycleEnd s
  | .tick => Sys2Proof.Machine.execTick s
  | .claimTableTick => Sys2Proof.Machine.execClaimTableTick s
  | .slotTableTick => Sys2Proof.Machine.execSlotTableTick s
  | .waitTimeout r => Sys2Proof.Machine.execWaitTimeout r s
  | .leaseExpiry r => Sys2Proof.Machine.execLeaseExpiry r s
  | .graceExpiry r => Sys2Proof.Machine.execGraceExpiry r s
  | .recallLimitExpiry r => Sys2Proof.Machine.execRecallLimitExpiry r s
  | .silenceExpiry n => Sys2Proof.Machine.execSilenceExpiry n s
  | .presRise n => Sys2Proof.Machine.execPresRise n s
  | .presFall n => Sys2Proof.Machine.execPresFall n s
  | .slotReset n => Sys2Proof.Machine.execSlotReset n s
  | .backplaneReset => Sys2Proof.Machine.execBackplaneReset s
  | .powerOnReset elig => Sys2Proof.Machine.execPowerOnReset elig s
  | .controlBlockRead n addr width => Sys2Proof.Machine.execControlBlockRead n addr width s
  | .porAsserted => Sys2Proof.Machine.execPorAsserted s

end Sys2Proof.Machine
end

