-- ==== Sys2Proof/Safety.lean ====
section
/-! DEFINITION. Safety.lean: the terms in which the statements speak: what two states have in common, what a take is and
how it is answered, and the laws the spec says the part keeps. -/

namespace Sys2Proof.Machine

/-! ### What two states have in common -/

/-- The two states have the same Window Table and Claim Table. -/
structure SameTables (s t : State) : Prop where
  windows : t.windows = s.windows
  records : t.records = s.records
  claims : t.claims = s.claims

/-- The two states have the same master role, eligible set and silence limit. -/
structure SameRole (s t : State) : Prop where
  master : t.master = s.master
  eligible : t.eligible = s.eligible
  silenceLimit : t.silenceLimit = s.silenceLimit

/-- The two states have the same Tick Generator and the same ticks in flight. -/
structure SameClock (s t : State) : Prop where
  tickSelect : t.tickSelect = s.tickSelect
  divider : t.divider = s.divider
  claimTicksDue : t.claimTicksDue = s.claimTicksDue
  slotTicksDue : t.slotTicksDue = s.slotTicksDue

/-- The two states have the same cycle in hand, answer on the backplane, input lines and waiting commands. -/
structure SameOutside (s t : State) : Prop where
  inHand : t.inHand = s.inHand
  portAnswer : t.portAnswer = s.portAnswer
  presLines : t.presLines = s.presLines
  porAsserted : t.porAsserted = s.porAsserted
  pending : t.pending = s.pending

/-- Everything but the Window Table, the Claim Table and the notice queues is the same: what the Claim Table's own
procedures leave alone. -/
structure SameBesideClaims (s t : State) : Prop where
  slots : t.slots = s.slots
  ports : t.ports = s.ports
  pointer : t.pointer = s.pointer
  role : SameRole s t
  clock : SameClock s t
  outside : SameOutside s t

/-- The slot records, the master role, the clock and everything outside the part are the same. -/
structure SameRack (s t : State) : Prop where
  slots : t.slots = s.slots
  role : SameRole s t
  clock : SameClock s t
  outside : SameOutside s t

/-- Every window but `w` has the same record and the same claim state. -/
structure SameOtherWindows (w : WindowId) (s t : State) : Prop where
  windows : ∀ v, v ≠ w → t.window v = s.window v
  claims : ∀ v, v ≠ w → t.claim v = s.claim v

/-- Every claim record but `r` is the same. -/
abbrev SameOtherRecords (r : RecordId) (s t : State) : Prop := ∀ q, q ≠ r → t.record q = s.record q

/-- Every slot record but slot `n`'s is the same. -/
abbrev SameOtherSlots (n : SlotId) (s t : State) : Prop := ∀ m, m ≠ n → t.slot m = s.slot m

/-- Every Slot Port but slot `n`'s is the same. -/
abbrev SameOtherPorts (n : SlotId) (s t : State) : Prop := ∀ m, m ≠ n → t.port m = s.port m

/-- Every notice queue but slot `n`'s is the same. -/
abbrev SameOtherQueues (n : SlotId) (s t : State) : Prop := ∀ m, m ≠ n → t.queue m = s.queue m

/-! ### Notices -/

/-- A queue after a list of notices, posted in order, of which it takes those to its own slot `n` (R148, R149). -/
def queueAfter (posts : List (SlotId × Subject × NoticeBody)) (n : SlotId) (q : List Notice) : List Notice :=
  posts.foldl (fun q p => if p.1 = n then enqueueNotice p.2.1 p.2.2 q else q) q

/-- The notices posted between the two states are these, in this order; those to a slot ABSENT in the first are
discarded (R148). -/
def Posted (s t : State) (posts : List (SlotId × Subject × NoticeBody)) : Prop :=
  ∀ n, t.queue n = if (s.slot n).state = .absent then s.queue n else queueAfter posts n (s.queue n)

/-- A notice to the master, if some slot other than `except` holds the role. -/
def toMaster (s : State) (except : Option SlotId) (x : Subject) (b : NoticeBody) :
    List (SlotId × Subject × NoticeBody) :=
  match s.master with
  | none => []
  | some m => if except = some m then [] else [(m, x, b)]

/-! ### A take and its answer (R161, R162) -/

/-- The Command Engine's next take is entry `e` of slot `c`, and `e` is a command with this code. -/
abbrev TakesCommand (s : State) (c : SlotId) (e : CommandEntry) (code : BitVec 8) : Prop :=
  s.porAsserted = false ∧ s.nextTake = some (c, e) ∧ e.opcode = code

/-- The response that carries a reply to entry `e`. -/
def responseTo (e : CommandEntry) (y : Reply) : Response :=
  { tag := e.tag, opcode := e.opcode, outcome := y.outcome, ext := y.ext, word1 := y.word1, word2 := y.word2 }

/-- Slot `c`'s head command has left its FIFO, the reply to `e` stands at the tail of its response FIFO, the pointer
names `c`, and nothing else of the Slot Ports has changed. -/
structure Answered (s t : State) (c : SlotId) (e : CommandEntry) (y : Reply) : Prop where
  pointer : t.pointer = c
  port : t.port c =
    { s.port c with
      commands := (s.port c).commands.tail
      responses := (s.port c).responses ++ [responseTo e y] }
  otherPorts : SameOtherPorts c s t

/-- As `Answered`, before the response is pushed. -/
structure Taken (s m : State) (c : SlotId) : Prop where
  pointer : m.pointer = c
  port : m.port c = { s.port c with commands := (s.port c).commands.tail }
  otherPorts : SameOtherPorts c s m

/-- The take is answered, and beside the Window Table, the Claim Table and the notice queues nothing else changes. -/
structure AnsweredInTables (s t : State) (c : SlotId) (e : CommandEntry) (y : Reply) : Prop where
  answered : Answered s t c e y
  rack : SameRack s t

/-- The take is answered, and nothing else changes at all: a refusal, a query, a command that finds nothing to do. -/
structure OnlyAnswered (s t : State) (c : SlotId) (e : CommandEntry) (y : Reply) : Prop where
  answered : Answered s t c e y
  rack : SameRack s t
  tables : SameTables s t
  notices : t.notices = s.notices

/-- The take is of a command of an ACTIVE slot. -/
abbrev TakesFromActive (s : State) (c : SlotId) (e : CommandEntry) (code : BitVec 8) : Prop :=
  TakesCommand s c e code ∧ (s.slot c).state = .active

/-- The take is of a command of the ACTIVE slot that holds the master role. -/
abbrev TakesFromMaster (s : State) (c : SlotId) (e : CommandEntry) (code : BitVec 8) : Prop :=
  TakesFromActive s c e code ∧ s.master = some c

/-- The command's window field names window `w` (10.8). -/
abbrev NamesWindow (e : CommandEntry) (w : WindowId) : Prop := (lowByte e.param0).toNat = w.val

/-- The slot field in this parameter names slot `n` (10.8). -/
abbrev NamesSlot (p : Word) (n : SlotId) : Prop := (lowByte p).toNat = n.val

/-- The take is of a command that names a defined window on which its ACTIVE caller has hold `r`: the common checks of
the hold commands are passed (R62). -/
abbrev TakesOnHold (s : State) (c : SlotId) (e : CommandEntry) (code : BitVec 8) (w : WindowId) (r : RecordId) : Prop :=
  TakesFromActive s c e code ∧ NamesWindow e w ∧ (s.window w).state ≠ .undefined ∧ s.holdOf c w = some r

/-- The rows that are takes of a catalogue command, with the command's code (10.7). -/
def takeRows : List (Instr × BitVec 8) :=
  [(.join, 0x01), (.leave, 0x02), (.claim, 0x03), (.withdraw, 0x04), (.release, 0x05), (.renew, 0x06),
   (.upgrade, 0x07), (.downgrade, 0x08), (.transfer, 0x09), (.queryWindow, 0x0A), (.querySlot, 0x0B),
   (.takeMaster, 0x0C), (.define, 0x10), (.undefine, 0x11), (.openWindow, 0x12), (.closeWindow, 0x13),
   (.recallWindow, 0x14), (.evict, 0x15), (.setQuota, 0x16), (.setEligible, 0x17), (.setTiming, 0x18),
   (.handMaster, 0x19)]

/-- The commands of the catalogue, each with its code (10.7). -/
def commandTable : List (BitVec 8 × (SlotId → CommandEntry → State → State × Reply)) :=
  [(0x01, joinCommand), (0x02, leaveCommand), (0x03, claimCommand), (0x04, withdrawCommand),
   (0x05, releaseCommand), (0x06, renewCommand), (0x07, upgradeCommand), (0x08, downgradeCommand),
   (0x09, transferCommand), (0x0A, queryWindowCommand), (0x0B, querySlotCommand), (0x0C, takeMasterCommand),
   (0x10, defineCommand), (0x11, undefineCommand), (0x12, openCommand), (0x13, closeCommand),
   (0x14, recallCommand), (0x15, evictCommand), (0x16, setQuotaCommand), (0x17, setEligibleCommand),
   (0x18, setTimingCommand), (0x19, handMasterCommand)]

/-! ### A control-block cycle (R157, R158) -/

/-- A control-block cycle of slot `n` is done with this answer: an ACTIVE slot's silence counter is reloaded, the cycle
before it is no longer in hand, and but for slot `n`'s port and queue nothing else changes. -/
structure PortCycleDone (s t : State) (n : SlotId) (a : PortAnswer) : Prop where
  answer : t.portAnswer = a
  inHand : t.inHand = none
  own : t.slot n =
    if (s.slot n).state = .active then { s.slot n with silence := s.silenceLimit } else s.slot n
  otherSlots : SameOtherSlots n s t
  otherPorts : SameOtherPorts n s t
  otherQueues : SameOtherQueues n s t
  tables : SameTables s t
  role : SameRole s t
  clock : SameClock s t
  pointer : t.pointer = s.pointer
  presLines : t.presLines = s.presLines
  porAsserted : t.porAsserted = s.porAsserted
  pending : t.pending = s.pending

/-! ### The laws the part keeps -/

/-- No queue holds two notices on one subject (R149), and an ABSENT slot's queue is empty (R129, R148). -/
def QueuesLawful (s : State) : Prop :=
  ∀ n, ((s.queue n).map Notice.subject).Nodup ∧ ((s.slot n).state = .absent → s.queue n = [])

/-- Neither FIFO of a slot holds more than four entries (R160, R163), and those of an ABSENT slot are empty (R129). -/
def FifosLawful (s : State) : Prop :=
  ∀ n, (s.port n).commands.length ≤ Config.fifoDepth ∧ (s.port n).responses.length ≤ Config.fifoDepth ∧
    ((s.slot n).state = .absent → (s.port n).commands = [] ∧ (s.port n).responses = [])

/-- The slot that holds the master role is ACTIVE (R128). -/
def RoleLawful (s : State) : Prop := ∀ m, s.master = some m → (s.slot m).state = .active

/-- The silence counter of a slot that is not ACTIVE is 0 (R127), and every quota is 1 to 64 (R127). -/
def SlotsLawful (s : State) : Prop :=
  ∀ n, ((s.slot n).state ≠ .active → (s.slot n).silence = 0) ∧ 1 ≤ (s.slot n).quota ∧ (s.slot n).quota ≤ 64

/-- A defined window's definition is in range (R7); an UNDEFINED window's is zero (R1). -/
def WindowRecord.lawful (d : WindowRecord) : Prop :=
  (d.state = .undefined → d = WindowRecord.cleared) ∧
  (d.state ≠ .undefined →
    baseInRange d.base d.sizeCode = true ∧ d.share ≠ .cleared ∧ d.grace ≠ 0 ∧ d.recallLimit ≠ 0)

/-- Definitions are in range, and no two windows that are not UNDEFINED share any address (R8). -/
def WindowsLawful (s : State) : Prop :=
  (∀ w, (s.window w).lawful) ∧
  ∀ v w, v ≠ w → (s.window v).isDefined = true → (s.window w).isDefined = true →
    ∀ addr : Word, ¬((s.window v).covers addr = true ∧ (s.window w).covers addr = true)

/-- A window's wait list names that window's WAITING records, each once (R25). -/
def WaitListsLawful (s : State) : Prop :=
  ∀ w, (s.claim w).waitList.Nodup ∧
    ∀ r, r ∈ (s.claim w).waitList ↔ ((s.record r).phase = .waiting ∧ (s.record r).window = w)

/-- A FREE record's other fields are zero (R21). -/
def PoolLawful (s : State) : Prop := ∀ r, (s.record r).phase = .free → s.record r = ClaimRecord.cleared

/-- For any slot and window at most one record in use names both (R30). -/
def OneRecordEach (s : State) : Prop :=
  ∀ q r, q ≠ r → (s.record q).phase ≠ .free → (s.record r).phase ≠ .free →
    ¬((s.record q).slot = (s.record r).slot ∧ (s.record q).window = (s.record r).window)

/-- An EXCLUSIVE hold never coexists with another hold on the same window (R26). -/
def HoldersLawful (s : State) : Prop :=
  ∀ q r, q ≠ r → (s.record q).phase.isHold = true → (s.record r).phase.isHold = true →
    (s.record q).window = (s.record r).window → (s.record q).mode = .shared ∧ (s.record r).mode = .shared

/-- The laws of the Claim Table that hold of the records and wait lists alone (R21, R25, R26, R30). -/
structure ClaimsLawful (s : State) : Prop where
  waitLists : WaitListsLawful s
  pool : PoolLawful s
  oneEach : OneRecordEach s
  holders : HoldersLawful s

/-- A slot never has more records in use than its quota (R32). -/
def QuotasLawful (s : State) : Prop := ∀ n, s.inUse n ≤ (s.slot n).quota

/-- The counter of a LAPSING or RECALLED record is at least 1 (R22). -/
def CountersLawful (s : State) : Prop :=
  ∀ r, (s.record r).phase = .lapsing ∨ (s.record r).phase = .recalled → (s.record r).counter ≠ 0

/-- Every record in use names an ACTIVE slot; WAITING records exist only on OPEN windows, holds only on OPEN or DRAINING
windows, and every hold on a DRAINING window is RECALLED (R29). -/
def RecordsPlaced (s : State) : Prop :=
  ∀ r, ((s.record r).phase ≠ .free → (s.slot (s.record r).slot).state = .active) ∧
    ((s.record r).phase = .waiting → (s.window (s.record r).window).state = .opened) ∧
    ((s.record r).phase.isHold = true →
      (s.window (s.record r).window).state = .opened ∨ (s.window (s.record r).window).state = .draining) ∧
    ((s.record r).phase.isHold = true → (s.window (s.record r).window).state = .draining →
      (s.record r).phase = .recalled)

/-- A pending upgrader holds its window SHARED in state HELD or LAPSING (R27). -/
def UpgradersLawful (s : State) : Prop :=
  ∀ w u, (s.claim w).upgrader = some u →
    ∃ r, s.holdOf u w = some r ∧ (s.record r).mode = .shared ∧ (s.record r).phase.isRenewable = true

/-- A window under recall is OPEN, has a hold, has only RECALLED holds and no pending upgrader (R28); a hold is RECALLED
only on a window under recall or DRAINING (R22). -/
def RecallsLawful (s : State) : Prop :=
  (∀ w, (s.claim w).marker ≠ .idle →
    (s.window w).state = .opened ∧ s.holders w ≠ [] ∧ (s.claim w).upgrader = none ∧
      ∀ r, s.isHoldOn w r = true → (s.record r).phase = .recalled) ∧
  ∀ r, (s.record r).phase = .recalled →
    (s.claim (s.record r).window).marker ≠ .idle ∨ (s.window (s.record r).window).state = .draining

/-- What a grant pass leaves on an OPEN window with no recall in progress: the wait list is empty, or the window has
holds which its head cannot join (R42); and a pending upgrader is not the sole holder (R48 step 1). -/
def PassesSettled (s : State) : Prop :=
  ∀ w, (s.window w).state = .opened → (s.claim w).marker = .idle →
    (∀ r rest, (s.claim w).waitList = r :: rest →
      s.holders w ≠ [] ∧
        ((s.record r).mode = .exclusive ∨ s.allShared w = false ∨ (s.claim w).upgrader ≠ none)) ∧
    ∀ u, (s.claim w).upgrader = some u → ∃ r, s.isHoldOn w r = true ∧ (s.record r).slot ≠ u

/-- A record whose beneficiary flag is set waits at the head of its window's wait list under a recall that names its
slot (R21), and a recall that names a beneficiary has that slot's flagged record at the head (R96, R100). -/
def BeneficiariesLawful (s : State) : Prop :=
  (∀ r, (s.record r).beneficiary = true →
    (s.record r).phase = .waiting ∧ (s.claim (s.record r).window).waitList.head? = some r ∧
      (s.claim (s.record r).window).marker = .inProgress (some (s.record r).slot)) ∧
  ∀ w b, (s.claim w).marker = .inProgress (some b) →
    ∃ r, (s.claim w).waitList.head? = some r ∧ (s.record r).slot = b ∧ (s.record r).beneficiary = true

/-- The backplane carries one cycle at a time (R111), and while POR# is asserted nothing is driven on it (R144). -/
def BackplaneLawful (s : State) : Prop :=
  (s.inHand = none ∨ s.portAnswer = .idle) ∧ (s.porAsserted = true → s.inHand = none ∧ s.portAnswer = .idle)

end Sys2Proof.Machine
end

