-- ==== Sys2Proof/Certificates/Slice0/Obligations.lean ====
section
/-! DEFINITION. Certificates/Slice0/Obligations.lean: the statements about the JC8, in the terms of Safety.lean.

They stand in this order: the block and its resets; the Command Engine; the shared procedures of the Claim Table and the
Slot Table; the commands; the control block; backplane cycles; the tick; the lines; the laws that every step keeps. -/

open Sys2Proof Sys2Proof.Machine

/-! ### The block and its resets -/

/-- A step takes the command at the front of the queue and runs it with the queue's rest. The queue and its order are the
model's choice (log entry 11); the spec says only that each happening is taken whole. -/
def Obligations.StepRunsFrontCommand : Prop :=
  ∀ (s : State) (i : Instr) (rest : List Instr),
    step { s with pending := i :: rest } = exec i { s with pending := rest }

/-- With no command waiting a step is one REFCLK cycle: the divider counts it, and the cycle that completes a period
issues one tick to each of the two tables; while POR# is asserted nothing happens. That an empty queue lets REFCLK run,
and that one cycle passes, is the model's choice (log entry 3), and the counts of ticks in flight are the model's form of
R82 (log entry 5); the divider's period is R79's. -/
def Obligations.IdleStepCountsRefclk : Prop :=
  ∀ (s : State), s.pending = [] → ∃ t, step s = .next t ∧
    (s.porAsserted = true → t = s) ∧
    (s.porAsserted = false → s.divider + 1 < Config.tickPeriod s.tickSelect →
      t.divider = s.divider + 1 ∧ t.claimTicksDue = s.claimTicksDue ∧ t.slotTicksDue = s.slotTicksDue) ∧
    (s.porAsserted = false → Config.tickPeriod s.tickSelect ≤ s.divider + 1 →
      t.divider = 0 ∧ t.claimTicksDue = s.claimTicksDue + 1 ∧ t.slotTicksDue = s.slotTicksDue + 1) ∧
    SameTables s t ∧ SameRole s t ∧ SameOutside s t ∧ t.slots = s.slots ∧ t.ports = s.ports ∧ t.notices = s.notices ∧
    t.pointer = s.pointer ∧ t.tickSelect = s.tickSelect

/-- Every command in every state answers a next state: the part never stops. The clause that the queue of waiting commands
is kept is about the model's own field (log entry 11); that a row whose happening cannot take place in a state still
answers a next state, with nothing changed, is the model's reading (log entries 2, 4, 5 and 7). -/
def Obligations.EveryCommandAnswersNext : Prop :=
  ∀ (s : State) (i : Instr), ∃ t, exec i s = .next t ∧ t.pending = s.pending

/-- While POR# is asserted, no cycle, command, tick or line change is taken: every step but POR#'s own two edges, the end
of a cycle and the level of a presence line leaves the state as it is; and no attention output is driven (R144). That the
levels of the presence lines are held under POR# is the model's reading (log entry 8). -/
def Obligations.NothingTakenUnderPowerOnReset : Prop :=
  ∀ (s : State) (i : Instr), s.porAsserted = true →
    (∀ n, s.atn n = false) ∧
    ((∀ elig, i ≠ .powerOnReset elig) → i ≠ .porAsserted → i ≠ .cycleEnd →
      (∀ n, i ≠ .presRise n) → (∀ n, i ≠ .presFall n) → exec i s = .next s) ∧
    ∀ n, exec (.presRise n) s = .next (s.setLine n true) ∧ exec (.presFall n) s = .next (s.setLine n false)

/-- POR# asserted drops the cycle in hand and drives nothing; POR# deasserted puts every item at its power-on value, with
the presence lines and the eligibility straps as they stand at that moment (R18, R38, R81, R126, R144, R151, R166). The
model's choices: that the tables, slots, ports, queues and pointer keep their contents while POR# is asserted, and that
the divider and the counts of ticks due start at 0 (log entry 12); portAnswer, which is idle after both (log entry 6); and
that the waiting queue is kept (log entry 11). That the row POWER_ON_RESET does the same where POR# is not asserted, as a
whole pulse of POR#, is the model's choice (log entry 15). -/
def Obligations.PowerOnResetState : Prop :=
  ∀ (s : State) (elig : BitVec 8),
    (∃ t, exec .porAsserted s = .next t ∧ t.porAsserted = true ∧ t.inHand = none ∧ t.portAnswer = .idle ∧
      t.presLines = s.presLines ∧ t.pending = s.pending ∧ SameTables s t ∧ SameRole s t ∧ SameClock s t ∧
      t.slots = s.slots ∧ t.ports = s.ports ∧ t.notices = s.notices ∧ t.pointer = s.pointer) ∧
    ∃ t, exec (.powerOnReset elig) s = .next t ∧
      (∀ w, t.window w = WindowRecord.cleared) ∧ (∀ r, t.record r = ClaimRecord.cleared) ∧
      (∀ w, t.claim w = WindowClaims.cleared) ∧
      (∀ n, t.slot n =
        { state := if s.presLines.getLsbD n.val then .present else .absent, exitReason := .none, identity := 0,
          slotClass := 0, quota := 16, silence := 0 }) ∧
      t.master = none ∧ t.eligible = elig ∧ t.silenceLimit = 0 ∧ t.tickSelect = 1 ∧ t.divider = 0 ∧
      t.claimTicksDue = 0 ∧ t.slotTicksDue = 0 ∧ (∀ n, t.port n = SlotPort.cleared) ∧ (∀ n, t.queue n = []) ∧
      t.pointer = 7 ∧ t.inHand = none ∧ t.portAnswer = .idle ∧ t.presLines = s.presLines ∧ t.porAsserted = false ∧
      t.pending = s.pending

/-- Backplane reset: ACTIVE slots become PRESENT with reason RESET, open and draining windows become CLOSED with their
definitions, the Claim Table, queues and ports are emptied, the role is vacated, the pointer is 7 and the cycle in hand
is dropped; everything else is kept (R19, R38, R81, R126, R145, R156, R166). That the answer of a control-block cycle,
portAnswer, is kept is the model's choice (log entry 6), as are the counts of ticks in flight, kept with the clock (log
entry 5), and the waiting queue (log entry 11). -/
def Obligations.BackplaneResetState : Prop :=
  ∀ (s : State), s.porAsserted = false → ∃ t, exec .backplaneReset s = .next t ∧
    (∀ w, t.window w =
      if (s.window w).state = .opened ∨ (s.window w).state = .draining then { s.window w with state := .closed }
      else s.window w) ∧
    (∀ r, t.record r = ClaimRecord.cleared) ∧ (∀ w, t.claim w = WindowClaims.cleared) ∧
    (∀ n, t.slot n =
      if (s.slot n).state = .active then { s.slot n with state := .present, exitReason := .reset, silence := 0 }
      else s.slot n) ∧
    t.master = none ∧ t.eligible = s.eligible ∧ t.silenceLimit = s.silenceLimit ∧ SameClock s t ∧
    (∀ n, t.port n = SlotPort.cleared) ∧ (∀ n, t.queue n = []) ∧ (∀ n, t.atn n = false) ∧ t.pointer = 7 ∧
    t.inHand = none ∧ t.portAnswer = s.portAnswer ∧ t.presLines = s.presLines ∧ t.porAsserted = false ∧
    t.pending = s.pending

/-! ### The Command Engine -/

/-- The slot taken from is the first eligible one in the order pointer + 1, pointer + 2 and so on, and its head entry is
the one taken; there is none exactly where no slot is eligible (R161). -/
def Obligations.ArbiterTakesFirstEligible : Prop :=
  ∀ (s : State),
    (∀ n, s.mayTake n = true ↔ (s.port n).commands ≠ [] ∧ (s.port n).responses.length < 4) ∧
    (s.nextTake = none ↔ ∀ n, s.mayTake n = false) ∧
    ∀ c e, s.nextTake = some (c, e) ↔
      s.mayTake c = true ∧ (s.port c).commands.head? = some e ∧
        ∀ i : SlotId, i < c - (s.pointer + 1) → s.mayTake (s.pointer + 1 + i) = false

/-- Every command taken receives exactly one response, at the tail of its own slot's response FIFO, with its tag and
opcode echo; its entry leaves its command FIFO, the pointer names its slot, and the FIFOs of the other slots stay as they
are (R161, R162). A row whose command is not the one the arbiter reaches changes nothing (log entry 2). -/
def Obligations.TakesAnswerExactlyOnce : Prop :=
  ∀ (s : State) (c : SlotId) (e : CommandEntry), s.porAsserted = false → s.nextTake = some (c, e) →
    ∀ p ∈ takeRows,
      (e.opcode ≠ p.2 → exec p.1 s = .next s) ∧
      (e.opcode = p.2 → ∃ t y, exec p.1 s = .next t ∧ t.pointer = c ∧
        (t.port c).commands = (s.port c).commands.tail ∧
        (t.port c).responses = (s.port c).responses ++ [responseTo e y] ∧
        ∀ n, n ≠ c → (t.port n).commands = (s.port n).commands ∧ (t.port n).responses = (s.port n).responses)

/-- A refusal changes nothing but the take itself, and its result fields are 0: for every command of the catalogue, in
every state (R165). -/
def Obligations.RefusalsChangeNothing : Prop :=
  ∀ p ∈ commandTable, ∀ (c : SlotId) (e : CommandEntry) (s : State),
    (p.2 c e s).2.outcome = .ok ∨ (p.2 c e s).2.outcome = .queued ∨
      ((p.2 c e s).1 = s ∧ (p.2 c e s).2 = Reply.refusal (p.2 c e s).2.outcome)

/-- The common checks in order: opcode (the take of one that is not in the catalogue is UNKNOWN_OPCODE), slot state,
privilege, the ranges of the window and slot fields, the window defined. Each refusal is answered and changes nothing (R142,
R165). The ranges of the other fields stand with their commands' own statements. -/
def Obligations.CommonCheckOrder : Prop :=
  ∀ (s : State) (c : SlotId) (e : CommandEntry),
    (s.porAsserted = false → s.nextTake = some (c, e) → (∀ p ∈ takeRows, e.opcode ≠ p.2) →
      ∃ t, exec .unknownOpcode s = .next t ∧ OnlyAnswered s t c e (Reply.refusal .badOpcode)) ∧
    ∀ p ∈ takeRows, TakesCommand s c e p.2 → ∃ t, exec p.1 s = .next t ∧
      (p.1 = .join → (s.slot c).state = .active → OnlyAnswered s t c e (Reply.refusal .alreadyActive)) ∧
      (p.1 ∉ [.join, .queryWindow, .querySlot] → (s.slot c).state = .present →
        OnlyAnswered s t c e (Reply.refusal .notActive)) ∧
      (p.1 ∈ [.define, .undefine, .openWindow, .closeWindow, .recallWindow, .evict, .setQuota, .setEligible, .setTiming,
          .handMaster] → (s.slot c).state = .active → s.master ≠ some c →
        OnlyAnswered s t c e (Reply.refusal .notMaster)) ∧
      (p.1 ∈ [.claim, .withdraw, .release, .renew, .upgrade, .downgrade, .transfer] → (s.slot c).state = .active →
        32 ≤ (lowByte e.param0).toNat → OnlyAnswered s t c e (Reply.refusal .badParam)) ∧
      (p.1 ∈ [.define, .undefine, .openWindow, .closeWindow, .recallWindow] → (s.slot c).state = .active →
        s.master = some c → 32 ≤ (lowByte e.param0).toNat → OnlyAnswered s t c e (Reply.refusal .badParam)) ∧
      (p.1 = .queryWindow → (s.slot c).state ≠ .absent → 32 ≤ (lowByte e.param0).toNat →
        OnlyAnswered s t c e (Reply.refusal .badParam)) ∧
      (p.1 ∈ [.withdraw, .release, .renew, .upgrade, .downgrade] → (s.slot c).state = .active →
        ∀ w, NamesWindow e w → (s.window w).state = .undefined → OnlyAnswered s t c e (Reply.refusal .noWindow)) ∧
      (p.1 = .transfer → (s.slot c).state = .active → 8 ≤ (lowByte e.param1).toNat →
        OnlyAnswered s t c e (Reply.refusal .badParam)) ∧
      (p.1 = .transfer → (s.slot c).state = .active → (lowByte e.param1).toNat < 8 →
        ∀ w, NamesWindow e w → (s.window w).state = .undefined → OnlyAnswered s t c e (Reply.refusal .noWindow)) ∧
      (p.1 ∈ [.evict, .setQuota, .handMaster] → (s.slot c).state = .active → s.master = some c →
        8 ≤ (lowByte e.param0).toNat → OnlyAnswered s t c e (Reply.refusal .badParam)) ∧
      (p.1 = .recallWindow → (s.slot c).state = .active → s.master = some c → e.param1.getLsbD 8 = true →
        8 ≤ (lowByte e.param1).toNat → OnlyAnswered s t c e (Reply.refusal .badParam)) ∧
      (p.1 = .querySlot → (s.slot c).state ≠ .absent → 8 ≤ (lowByte e.param0).toNat →
        OnlyAnswered s t c e (Reply.refusal .badParam)) ∧
      (p.1 ∈ [.undefine, .openWindow, .closeWindow] → (s.slot c).state = .active → s.master = some c →
        ∀ w, NamesWindow e w → (s.window w).state = .undefined → OnlyAnswered s t c e (Reply.refusal .noWindow))

/-! ### Notices -/

/-- A posted notice joins the tail with its folded flag clear where no notice on its subject stands, and is folded into
the standing notice in its place otherwise; one to an ABSENT slot is discarded (R148). No queue ever comes to hold two
notices on one subject, such a queue holds at most 42, STATUS reports how many, and NOTICE_POP removes the head (R149). -/
def Obligations.PostingFoldsOrJoins : Prop :=
  (∀ (s : State) (n : SlotId) (x : Subject) (b : NoticeBody),
    ((s.slot n).state = .absent → s.post n x b = s) ∧
    ((s.slot n).state ≠ .absent →
      ((∀ k ∈ s.queue n, k.subject ≠ x) →
        (s.post n x b).queue n = s.queue n ++ [{ subject := x, body := b, folded := false }]) ∧
      (∀ front k back, s.queue n = front ++ k :: back → k.subject = x → (∀ j ∈ front, j.subject ≠ x) →
        (s.post n x b).queue n = front ++ { subject := x, body := b, folded := true } :: back) ∧
      SameOtherQueues n s (s.post n x b) ∧ SameTables s (s.post n x b) ∧ SameBesideClaims s (s.post n x b))) ∧
  (∀ (s t : State), (∀ n, ((s.queue n).map Notice.subject).Nodup) → step s = .next t →
    ∀ n, ((t.queue n).map Notice.subject).Nodup) ∧
  (∀ (q : List Notice), (q.map Notice.subject).Nodup → q.length ≤ 42) ∧
  (∀ (s : State) (n : SlotId), (s.status n).extractLsb' 8 6 = BitVec.ofNat 6 (s.queue n).length) ∧
  ∀ (s t : State) (n : SlotId) (value : Word), s.porAsserted = false → (s.slot n).state ≠ .absent →
    exec (.noticePop n value) s = .next t → t.queue n = (s.queue n).tail

/-- With POR# deasserted, ATN[n] is asserted exactly while slot n's queue holds a notice and its attention enable is set;
with POR# asserted it is deasserted (R155). -/
def Obligations.AttentionFollowsQueue : Prop :=
  ∀ (s : State) (n : SlotId),
    (s.porAsserted = false → (s.atn n = true ↔ s.queue n ≠ [] ∧ (s.port n).attnEnable = true)) ∧
    (s.porAsserted = true → s.atn n = false)

/-! ### The Claim Table's procedures -/

/-- Retiring a record in use: it leaves its window's wait list or holder set, a beneficiary's recall runs on without one,
an upgrader's pending upgrade is cleared, the record is FREE with every field zero, its slot's count falls by one, and no
notice is posted (R34). -/
def Obligations.RetiringARecord : Prop :=
  ∀ (s : State) (r : RecordId) (w : WindowId), (s.record r).phase ≠ .free → (s.record r).window = w →
    (s.retire r).record r = ClaimRecord.cleared ∧ SameOtherRecords r s (s.retire r) ∧
    (s.retire r).windows = s.windows ∧ SameOtherWindows w s (s.retire r) ∧
    ((s.record r).phase = .waiting →
      (s.retire r).claim w =
        { waitList := (s.claim w).waitList.erase r
          upgrader := (s.claim w).upgrader
          marker :=
            if (s.record r).beneficiary = true ∧ (s.claim w).marker ≠ .idle then .inProgress none
            else (s.claim w).marker }) ∧
    ((s.record r).phase ≠ .waiting →
      (s.retire r).claim w =
        { waitList := (s.claim w).waitList
          upgrader := if (s.claim w).upgrader = some (s.record r).slot then none else (s.claim w).upgrader
          marker := (s.claim w).marker }) ∧
    (s.retire r).inUse (s.record r).slot + 1 = s.inUse (s.record r).slot ∧
    (∀ n, n ≠ (s.record r).slot → (s.retire r).inUse n = s.inUse n) ∧
    (s.retire r).notices = s.notices ∧ SameBesideClaims s (s.retire r)

/-- Granting a WAITING record: it leaves the wait list, becomes HELD with the window's lease and its flag clear, keeps
slot, window, mode and tag, and its slot receives GRANTED; no count of records changes (R47). -/
def Obligations.GrantingARecord : Prop :=
  ∀ (s : State) (r : RecordId) (w : WindowId), (s.record r).phase = .waiting → (s.record r).window = w →
    (s.grant r).record r =
      { s.record r with phase := .held, counter := (s.window w).lease, beneficiary := false } ∧
    SameOtherRecords r s (s.grant r) ∧ (s.grant r).windows = s.windows ∧ SameOtherWindows w s (s.grant r) ∧
    (s.grant r).claim w = { s.claim w with waitList := (s.claim w).waitList.erase r } ∧
    (∀ n, (s.grant r).inUse n = s.inUse n) ∧
    Posted s (s.grant r)
      [((s.record r).slot, .window w, .granted (s.record r).mode (s.record r).tag)] ∧
    SameBesideClaims s (s.grant r)

/-- The grant pass: none on a window that is not OPEN or is under recall (R46); otherwise its steps in order, the first
that applies deciding it: upgrade completes, upgrade blocks, exclusive head, shared batch, and nothing (R48). -/
def Obligations.GrantPassSteps : Prop :=
  ∀ (s : State) (w : WindowId),
    ((s.window w).state ≠ .opened ∨ (s.claim w).marker ≠ .idle → s.grantPass w = s) ∧
    ((s.window w).state = .opened → (s.claim w).marker = .idle →
      (∀ u r, (s.claim w).upgrader = some u → s.holders w = [r] → (s.record r).slot = u →
        (s.grantPass w).record r =
          { s.record r with phase := .held, mode := .exclusive, counter := (s.window w).lease } ∧
        SameOtherRecords r s (s.grantPass w) ∧ (s.grantPass w).windows = s.windows ∧
        SameOtherWindows w s (s.grantPass w) ∧ (s.grantPass w).claim w = { s.claim w with upgrader := none } ∧
        Posted s (s.grantPass w) [(u, .window w, .granted .exclusive (s.record r).tag)] ∧
        SameBesideClaims s (s.grantPass w)) ∧
      (∀ u q, (s.claim w).upgrader = some u → s.isHoldOn w q = true → (s.record q).slot ≠ u → s.grantPass w = s) ∧
      ((s.claim w).upgrader = none →
        ((s.claim w).waitList = [] → s.grantPass w = s) ∧
        ∀ r rest, (s.claim w).waitList = r :: rest →
          ((s.record r).mode = .exclusive → s.holders w = [] → s.grantPass w = s.grant r) ∧
          ((s.record r).mode = .exclusive → s.holders w ≠ [] → s.grantPass w = s) ∧
          ((s.record r).mode = .shared → (∀ q, s.isHoldOn w q = true → (s.record q).mode = .shared) →
            s.grantPass w =
              ((r :: rest).takeWhile fun q => decide ((s.record q).mode = .shared)).foldl State.grant s) ∧
          ((s.record r).mode = .shared → ∀ q, s.isHoldOn w q = true → (s.record q).mode = .exclusive →
            s.grantPass w = s)))

/-- A grant pass grants from the head alone: what it grants is a front part of the wait list, the rest stays waiting as it
was and in its order, and no other window, no record of another window and no FREE record changes (R47, R49). -/
def Obligations.GrantsFromHeadAlone : Prop :=
  ∀ (s : State) (w : WindowId), ClaimsLawful s →
    ∃ granted rest, (s.claim w).waitList = granted ++ rest ∧ ((s.grantPass w).claim w).waitList = rest ∧
      (∀ r ∈ granted, (s.grantPass w).record r =
        { s.record r with phase := .held, counter := (s.window w).lease, beneficiary := false }) ∧
      (∀ r ∈ rest, (s.grantPass w).record r = s.record r) ∧
      (∀ r, (s.record r).window ≠ w ∨ (s.record r).phase = .free → (s.grantPass w).record r = s.record r) ∧
      SameOtherWindows w s (s.grantPass w) ∧ (s.grantPass w).windows = s.windows

/-- The follow-ups of a retirement: where the last hold was retired, the recall marker clears, and a DRAINING window
becomes CLOSED with WINDOW_CLOSED to the master and no grant pass; then, on an OPEN window without recall, a grant pass
(R13, R35). -/
def Obligations.FollowUpsOfRetirement : Prop :=
  ∀ (s : State) (w : WindowId) (exiting : Option SlotId),
    s.followUps w false exiting = s.grantPass w ∧
    (s.holders w ≠ [] → s.followUps w true exiting = s.grantPass w) ∧
    (s.holders w = [] → (s.window w).state ≠ .draining →
      s.followUps w true exiting = (s.setClaim w { s.claim w with marker := .idle }).grantPass w) ∧
    (s.holders w = [] → (s.window w).state = .draining →
      (s.followUps w true exiting).window w = { s.window w with state := .closed } ∧
      (s.followUps w true exiting).claim w = { s.claim w with marker := .idle } ∧
      SameOtherWindows w s (s.followUps w true exiting) ∧ (s.followUps w true exiting).records = s.records ∧
      Posted s (s.followUps w true exiting) (toMaster s exiting (.window w) .windowClosed) ∧
      SameBesideClaims s (s.followUps w true exiting))

/-! ### Exit processing -/

/-- The request to retire every record of slot n visits windows 0 to 31 in order; on each where it has a record, that record
is retired and the follow-ups of R35 are made, before the next window. No record in use names the slot afterwards, nothing
is posted to it, FREE records stay FREE, and windows on which it has no record keep their state, claim state and records
(R36). -/
def Obligations.ExitRetiresEveryRecord : Prop :=
  (∀ (s : State) (n : SlotId),
    s.exitRecords n = allWindows.foldl (fun s w => s.exitWindow n w) s ∧
    ∀ w, (s.recordOf n w = none → s.exitWindow n w = s) ∧
      ∀ r, s.recordOf n w = some r →
        s.exitWindow n w = (s.retire r).followUps w (s.record r).phase.isHold (some n)) ∧
  ∀ (s : State) (n : SlotId), ClaimsLawful s →
    (∀ r, ((s.exitRecords n).record r).phase ≠ .free → ((s.exitRecords n).record r).slot ≠ n) ∧
    (s.exitRecords n).inUse n = 0 ∧ (s.exitRecords n).queue n = s.queue n ∧
    (∀ r, (s.record r).phase = .free → (s.exitRecords n).record r = s.record r) ∧
    (∀ w, s.recordOf n w = none →
      (s.exitRecords n).window w = s.window w ∧ (s.exitRecords n).claim w = s.claim w ∧
        ∀ r, (s.record r).window = w → (s.exitRecords n).record r = s.record r) ∧
    SameBesideClaims s (s.exitRecords n)

/-- Exit processing of an ACTIVE slot after its records are retired: its standing, its queue and port by the exit reason,
SLOT_CHANGE to another master unless the exit is an eviction, and, where it was the master, the role vacant with ROLE
(VACANT) to every eligible ACTIVE slot (R135). -/
def Obligations.ExitProcessing : Prop :=
  ∀ (s : State) (n : SlotId) (reason : ExitReason), (s.slot n).state = .active → reason ≠ .none →
    SameTables (s.exitRecords n) (s.exit n reason) ∧
    (s.exit n reason).slot n =
      { s.slot n with
        state := if reason = .removed then .absent else .present
        exitReason := reason
        silence := 0 } ∧
    SameOtherSlots n s (s.exit n reason) ∧
    (reason = .left ∨ reason = .silent ∨ reason = .evicted →
      (s.exit n reason).port n = { s.port n with holding := 0 }) ∧
    (reason = .reset → (s.exit n reason).port n = SlotPort.cleared) ∧
    (reason = .removed → (s.exit n reason).port n =
      { s.port n with commands := [], responses := [], attnEnable := false, holding := 0 }) ∧
    SameOtherPorts n s (s.exit n reason) ∧
    (s.exit n reason).queue n =
      (if reason = .silent ∨ reason = .evicted then
        [{ subject := .slot n, body := .exited reason, folded := false }] else []) ∧
    (∀ m, m ≠ n → (s.exit n reason).queue m =
      if (s.slot m).state = .absent then (s.exitRecords n).queue m
      else queueAfter
        ((if reason = .evicted then []
          else toMaster s (some n) (.slot n)
            (.slotChange (if reason = .removed then .absent else .present) reason)) ++
        (if s.master = some n ∧ (s.slot m).state = .active ∧ s.isEligible m = true then [(m, .role, .role .vacant)]
          else [])) m ((s.exitRecords n).queue m)) ∧
    (s.exit n reason).master = (if s.master = some n then none else s.master) ∧
    (s.exit n reason).eligible = s.eligible ∧ (s.exit n reason).silenceLimit = s.silenceLimit ∧
    SameClock s (s.exit n reason) ∧ SameOutside s (s.exit n reason) ∧ (s.exit n reason).pointer = s.pointer

/-- The five events that end an ACTIVE slot's participation each run exit processing with their reason, and LEAVE and
EVICT answer after it with the number of records it retired; EVICT of the caller is refused with BAD_PARAM and of a slot
that is not ACTIVE with SLOT_NOT_ACTIVE (R129, R130, R132, R133, R134). A silence expiry as a row of its own, apart from
the tick at the Slot Table, is the model's choice (log entry 4). -/
def Obligations.EventsThatEndParticipation : Prop :=
  ∀ (s : State),
    (∀ c e, TakesFromActive s c e 0x02 →
      exec .leave s =
        .next (((s.popCommand c).exit c .left).pushResponse c e (Reply.success .ok (bitsAt 0 6 (s.inUse c)) 0))) ∧
    (∀ c e n, TakesFromMaster s c e 0x15 → NamesSlot e.param0 n → n ≠ c → (s.slot n).state = .active →
      exec .evict s =
        .next (((s.popCommand c).exit n .evicted).pushResponse c e
          (Reply.success .ok (bitsAt 0 3 n.val ||| bitsAt 8 6 (s.inUse n)) 0))) ∧
    (∀ c e, TakesFromMaster s c e 0x15 → NamesSlot e.param0 c →
      ∃ t, exec .evict s = .next t ∧ OnlyAnswered s t c e (Reply.refusal .badParam)) ∧
    (∀ c e n, TakesFromMaster s c e 0x15 → NamesSlot e.param0 n → (s.slot n).state ≠ .active →
      ∃ t, exec .evict s = .next t ∧ OnlyAnswered s t c e (Reply.refusal .slotNotActive)) ∧
    (∀ n, s.porAsserted = false → s.silenceLimit ≠ 0 → (s.slot n).state = .active → (s.slot n).silence = 1 →
      exec (.silenceExpiry n) s = .next (s.exit n .silent)) ∧
    (∀ n, s.porAsserted = false → (s.slot n).state = .active →
      exec (.slotReset n) s = .next (s.exit n .reset) ∧
      exec (.presFall n) s = .next ((s.setLine n false).exit n .removed))

/-! ### Slots and the master role -/

/-- JOIN makes a PRESENT slot ACTIVE with its identity, class and a full silence counter, and another slot that is master
receives SLOT_CHANGE (R131). -/
def Obligations.JoinMakesSlotActive : Prop :=
  ∀ (s : State) (c : SlotId) (e : CommandEntry), TakesCommand s c e 0x01 → (s.slot c).state = .present →
    ∃ t, exec .join s = .next t ∧ Answered s t c e (Reply.success .ok (bitsAt 0 3 c.val) 0) ∧
      t.slot c =
        { state := .active, exitReason := .none, identity := e.param0, slotClass := lowByte e.param1,
          quota := (s.slot c).quota, silence := s.silenceLimit } ∧
      SameOtherSlots c s t ∧ Posted s t (toMaster s (some c) (.slot c) (.slotChange .active .none)) ∧
      SameTables s t ∧ SameRole s t ∧ SameClock s t ∧ SameOutside s t

/-- TAKE_MASTER gives the vacant role to an eligible caller, who receives ROLE (GAINED) (R140); HAND_MASTER passes the role
to an eligible ACTIVE slot, with ROLE (LOST) to the caller and then ROLE (GAINED) to the new master, and is refused, in this
order, for a T out of range or the caller itself, a T that is not ACTIVE and a T that is not eligible (R141). -/
def Obligations.MasterRoleTakenAndHanded : Prop :=
  ∀ (s : State) (c : SlotId) (e : CommandEntry),
    (TakesFromActive s c e 0x0C → s.master = none → s.eligible.getLsbD c.val = true →
      ∃ t, exec .takeMaster s = .next t ∧ Answered s t c e (Reply.success .ok 0 0) ∧ t.master = some c ∧
        t.eligible = s.eligible ∧ t.silenceLimit = s.silenceLimit ∧ Posted s t [(c, .role, .role .gained)] ∧
        t.slots = s.slots ∧ SameTables s t ∧ SameClock s t ∧ SameOutside s t) ∧
    (TakesFromActive s c e 0x0C → s.master ≠ none →
      ∃ t, exec .takeMaster s = .next t ∧ OnlyAnswered s t c e (Reply.refusal .roleTaken)) ∧
    (TakesFromActive s c e 0x0C → s.master = none → s.eligible.getLsbD c.val = false →
      ∃ t, exec .takeMaster s = .next t ∧ OnlyAnswered s t c e (Reply.refusal .notEligible)) ∧
    (TakesFromMaster s c e 0x19 → 8 ≤ (lowByte e.param0).toNat ∨ NamesSlot e.param0 c →
      ∃ t, exec .handMaster s = .next t ∧ OnlyAnswered s t c e (Reply.refusal .badParam)) ∧
    (∀ n, TakesFromMaster s c e 0x19 → NamesSlot e.param0 n → (s.slot n).state ≠ .active →
      ∃ t, exec .handMaster s = .next t ∧ OnlyAnswered s t c e (Reply.refusal .slotNotActive)) ∧
    (∀ n, TakesFromMaster s c e 0x19 → NamesSlot e.param0 n → n ≠ c → (s.slot n).state = .active →
      s.eligible.getLsbD n.val = false →
      ∃ t, exec .handMaster s = .next t ∧ OnlyAnswered s t c e (Reply.refusal .notEligible)) ∧
    ∀ n, TakesFromMaster s c e 0x19 → NamesSlot e.param0 n → n ≠ c → (s.slot n).state = .active →
      s.eligible.getLsbD n.val = true →
      ∃ t, exec .handMaster s = .next t ∧ Answered s t c e (Reply.success .ok (bitsAt 0 3 n.val) 0) ∧
        t.master = some n ∧ t.eligible = s.eligible ∧ t.silenceLimit = s.silenceLimit ∧
        Posted s t [(c, .role, .role .lost), (n, .role, .role .gained)] ∧
        t.slots = s.slots ∧ SameTables s t ∧ SameClock s t ∧ SameOutside s t

/-- SET_QUOTA writes one slot's quota, in any slot state, unless the slot is not 0 to 7 or the quota not 1 to 64
(BAD_PARAM) or the quota is below the slot's records in use (R138); SET_ELIGIBLE writes the eligible set, unless it leaves out the caller (R141). -/
def Obligations.QuotaAndEligibleSetWritten : Prop :=
  ∀ (s : State) (c : SlotId) (e : CommandEntry),
    (∀ n, TakesFromMaster s c e 0x16 → NamesSlot e.param0 n → 1 ≤ (lowByte e.param1).toNat →
      (lowByte e.param1).toNat ≤ 64 →
      ∃ t, exec .setQuota s = .next t ∧
        (s.inUse n ≤ (lowByte e.param1).toNat →
          Answered s t c e (Reply.success .ok
            (bitsAt 0 3 n.val ||| bitsAt 8 7 (lowByte e.param1).toNat ||| bitsAt 16 6 (s.inUse n)) 0) ∧
          t.slot n = { s.slot n with quota := (lowByte e.param1).toNat } ∧ SameOtherSlots n s t ∧
          t.notices = s.notices ∧ SameTables s t ∧ SameRole s t ∧ SameClock s t ∧ SameOutside s t) ∧
        ((lowByte e.param1).toNat < s.inUse n → OnlyAnswered s t c e (Reply.refusal .quotaBelowUse))) ∧
    (TakesFromMaster s c e 0x16 →
      8 ≤ (lowByte e.param0).toNat ∨ (lowByte e.param1).toNat = 0 ∨ 64 < (lowByte e.param1).toNat →
      ∃ t, exec .setQuota s = .next t ∧ OnlyAnswered s t c e (Reply.refusal .badParam)) ∧
    (TakesFromMaster s c e 0x17 →
      ∃ t, exec .setEligible s = .next t ∧
        ((lowByte e.param0).getLsbD c.val = true →
          Answered s t c e (Reply.success .ok (bitsAt 0 8 (lowByte e.param0).toNat) 0) ∧
          t.eligible = lowByte e.param0 ∧ t.master = s.master ∧ t.silenceLimit = s.silenceLimit ∧
          t.slots = s.slots ∧ t.notices = s.notices ∧ SameTables s t ∧ SameClock s t ∧ SameOutside s t) ∧
        ((lowByte e.param0).getLsbD c.val = false → OnlyAnswered s t c e (Reply.refusal .badParam)))

/-- SET_TIMING writes the silence limit and reloads every ACTIVE slot's counter with it, and a changed tick select takes
effect and restarts the divider; the counters of claim records stay. A tick select above 3 is refused with BAD_PARAM (R80,
R139). That the two counts of ticks in flight stay is the model's reading (log entry 5). -/
def Obligations.SetTimingEffect : Prop :=
  ∀ (s : State) (c : SlotId) (e : CommandEntry), TakesFromMaster s c e 0x18 →
    (4 ≤ (lowByte e.param0).toNat → ∃ t, exec .setTiming s = .next t ∧
      OnlyAnswered s t c e (Reply.refusal .badParam)) ∧
    ∀ select : Fin 4, (lowByte e.param0).toNat = select.val → ∃ t, exec .setTiming s = .next t ∧
      Answered s t c e
        (Reply.success .ok (bitsAt 0 2 select.val) (bitsAt 0 16 (e.param1.extractLsb' 0 16).toNat)) ∧
      t.silenceLimit = e.param1.extractLsb' 0 16 ∧ t.tickSelect = select ∧
      t.divider = (if s.tickSelect = select then s.divider else 0) ∧
      (∀ n, t.slot n =
        if (s.slot n).state = .active then { s.slot n with silence := e.param1.extractLsb' 0 16 } else s.slot n) ∧
      t.claimTicksDue = s.claimTicksDue ∧ t.slotTicksDue = s.slotTicksDue ∧ t.master = s.master ∧
      t.eligible = s.eligible ∧ t.notices = s.notices ∧ SameTables s t ∧ SameOutside s t

/-! ### Queries -/

/-- The fields of the three query views stand where 10.9 places them, a successful query changes nothing, and a caller
other than the master may name only its own slot in QUERY_SLOT (R17, R143, R167, R168). That RESP0 bits 31:24 of
QUERY_WINDOW, which R167 assigns to no field, are 0 is the model's choice (log entry 13), and so is that the position of a
hold, the beneficiary slot where none is named and the upgrader slot where there is none read 0 (log entry 14). -/
def Obligations.QueriesReportAndChangeNothing : Prop :=
  ∀ (s : State) (c : SlotId) (e : CommandEntry), (s.slot c).state ≠ .absent →
    (∀ w, TakesCommand s c e 0x0A → NamesWindow e w → ∃ t y, exec .queryWindow s = .next t ∧ OnlyAnswered s t c e y ∧
      y.outcome = .ok ∧ y.ext.extractLsb' 0 2 = BitVec.ofNat 2 (s.window w).state.code ∧
      y.ext.getLsbD 2 = e.param0.getLsbD 8 ∧ y.ext.extractLsb' 3 8 = 0 ∧
      (e.param0.getLsbD 8 = false →
        y.word1.extractLsb' 0 16 = (s.window w).lease ∧ y.word1.extractLsb' 16 8 = (s.window w).grace ∧
        y.word1.extractLsb' 24 8 = (s.window w).recallLimit ∧
        y.word2.extractLsb' 12 20 = (s.window w).base.extractLsb' 12 20 ∧
        y.word2.extractLsb' 0 4 = BitVec.ofNat 4 (s.window w).sizeCode.val ∧
        y.word2.extractLsb' 4 3 = BitVec.ofNat 3 (s.window w).target.val ∧
        y.word2.extractLsb' 7 2 = BitVec.ofNat 2 (s.window w).share.code ∧
        y.word2.extractLsb' 9 2 = BitVec.ofNat 2 (s.window w).foreign.code ∧
        y.word2.getLsbD 11 = (s.window w).renewOnAccess) ∧
      (e.param0.getLsbD 8 = true →
        (s.recordOf c w = none → y.word1 = 0) ∧
        (∀ r, s.recordOf c w = some r →
          y.word1.extractLsb' 0 16 = (s.record r).counter ∧ y.word1.extractLsb' 16 7 = BitVec.ofNat 7 r.val ∧
          y.word1.extractLsb' 23 1 = BitVec.ofNat 1 (s.record r).mode.code ∧
          y.word1.extractLsb' 24 3 = BitVec.ofNat 3 (s.record r).phase.code ∧
          y.word1.extractLsb' 27 4 =
            (if (s.record r).phase = .waiting then BitVec.ofNat 4 ((s.claim w).waitList.idxOf r + 1) else 0) ∧
          y.word1.getLsbD 31 = false) ∧
        y.word2.extractLsb' 0 4 = BitVec.ofNat 4 (s.holders w).length ∧
        y.word2.extractLsb' 4 2 =
          (if s.holders w = [] then 0 else if s.allShared w = true then 1 else 2) ∧
        y.word2.extractLsb' 6 4 = BitVec.ofNat 4 (s.claim w).waitList.length ∧
        y.word2.getLsbD 10 = decide ((s.claim w).marker ≠ .idle) ∧
        (∀ b, (s.claim w).marker = .inProgress (some b) →
          y.word2.getLsbD 11 = true ∧ y.word2.extractLsb' 12 3 = BitVec.ofNat 3 b.val) ∧
        ((∀ b, (s.claim w).marker ≠ .inProgress (some b)) → y.word2.extractLsb' 11 4 = 0) ∧
        (∀ u, (s.claim w).upgrader = some u →
          y.word2.getLsbD 15 = true ∧ y.word2.extractLsb' 16 3 = BitVec.ofNat 3 u.val) ∧
        ((s.claim w).upgrader = none → y.word2.extractLsb' 15 4 = 0) ∧ y.word2.extractLsb' 19 13 = 0)) ∧
    ∀ n, TakesCommand s c e 0x0B → NamesSlot e.param0 n →
      ∃ t y, exec .querySlot s = .next t ∧ OnlyAnswered s t c e y ∧
        (s.master ≠ some c → n ≠ c → y = Reply.refusal .notMaster) ∧
        (s.master = some c ∨ n = c →
          y.outcome = .ok ∧ y.ext.extractLsb' 0 2 = BitVec.ofNat 2 (s.slot n).state.code ∧
          y.ext.extractLsb' 2 3 = BitVec.ofNat 3 (s.slot n).exitReason.code ∧
          y.ext.extractLsb' 5 6 = BitVec.ofNat 6 (s.inUse n) ∧
          y.word1.extractLsb' 0 16 = (s.slot n).silence ∧ y.word1.extractLsb' 16 8 = (s.slot n).slotClass ∧
          y.word1.extractLsb' 24 7 = BitVec.ofNat 7 (s.slot n).quota ∧
          y.word1.getLsbD 31 = decide (s.master = some n) ∧ y.word2 = (s.slot n).identity)

/-! ### Claiming -/

/-- The checks of CLAIM from step 4 on, in their order; the first that fails gives the refusal, which changes nothing. A
claim that passes them all takes the lowest FREE record, which then names the caller, the window, the mode and the
command's tag, and is answered OK or QUEUED (R40). -/
def Obligations.ClaimChecksInOrder : Prop :=
  ∀ (s : State) (c : SlotId) (e : CommandEntry), TakesFromActive s c e 0x03 →
    (32 ≤ (lowByte e.param0).toNat ∨ e.param0.extractLsb' 8 2 = 0 ∨ e.param0.extractLsb' 8 2 = 3 →
      ∃ t, exec .claim s = .next t ∧ OnlyAnswered s t c e (Reply.refusal .badParam)) ∧
    ∀ (w : WindowId) (m : Mode), NamesWindow e w →
      e.param0.extractLsb' 8 2 = (match m with | .shared => 1 | .exclusive => 2) → ∃ t, exec .claim s = .next t ∧
      if (s.window w).state = .undefined then OnlyAnswered s t c e (Reply.refusal .noWindow)
      else if (s.window w).state ≠ .opened then OnlyAnswered s t c e (Reply.refusal .windowClosed)
      else if m = .shared ∧ (s.window w).share ≠ .sharedAllowed then OnlyAnswered s t c e (Reply.refusal .notSharable)
      else if s.holdOf c w ≠ none then OnlyAnswered s t c e (Reply.refusal .alreadyHeld)
      else if s.waitingOf c w ≠ none then OnlyAnswered s t c e (Reply.refusal .alreadyWaiting)
      else if e.param0.getLsbD 12 = true ∧ s.grantableAtOnce w m = false then
        OnlyAnswered s t c e (Reply.refusal .windowBusy)
      else if (s.slot c).quota ≤ s.inUse c then OnlyAnswered s t c e (Reply.refusal .quotaFull)
      else if s.lowestFree = none then OnlyAnswered s t c e (Reply.refusal .poolEmpty)
      else ∃ r y, s.lowestFree = some r ∧ AnsweredInTables s t c e y ∧
        y.outcome = (if s.grantableAtOnce w m = true then .ok else .queued) ∧
        (t.record r).phase ≠ .free ∧ (t.record r).slot = c ∧ (t.record r).window = w ∧ (t.record r).mode = m ∧
        (t.record r).tag = e.tag

/-- A claim that passes its checks takes the lowest FREE record: as a hold at once, answered OK, or as a WAITING record at
the tail of the wait list, answered QUEUED with its position; nothing else in the tables changes and no notice is posted,
since the grant pass that follows grants nothing where earlier passes have run (R42, R43, R45). -/
def Obligations.ClaimTakesARecord : Prop :=
  ∀ (s : State) (c : SlotId) (e : CommandEntry) (w : WindowId) (m : Mode) (r : RecordId), TakesFromActive s c e 0x03 →
    NamesWindow e w → e.claimMode = some m → (s.window w).state = .opened →
    (m = .shared → (s.window w).share = .sharedAllowed) → s.holdOf c w = none → s.waitingOf c w = none →
    s.inUse c < (s.slot c).quota → s.lowestFree = some r →
    (s.grantableAtOnce w m = true ↔
      (s.claim w).waitList = [] ∧ (s.claim w).marker = .idle ∧ (s.claim w).upgrader = none ∧
        ∀ q, s.isHoldOn w q = true → m = .shared ∧ (s.record q).mode = .shared) ∧
    (s.grantableAtOnce w m = true → ∃ t, exec .claim s = .next t ∧
      AnsweredInTables s t c e (Reply.success .ok (bitsAt 0 7 r.val ||| bitsAt 8 1 m.code) 0) ∧
      t.record r =
        { phase := .held, slot := c, window := w, mode := m, tag := e.tag, counter := (s.window w).lease,
          beneficiary := false } ∧
      SameOtherRecords r s t ∧ t.windows = s.windows ∧ t.claims = s.claims ∧ t.notices = s.notices) ∧
    (s.grantableAtOnce w m = false → e.param0.getLsbD 12 = false → PassesSettled s → WaitListsLawful s →
      ∃ t, exec .claim s = .next t ∧
        AnsweredInTables s t c e
          (Reply.success .queued
            (bitsAt 0 7 r.val ||| bitsAt 8 1 m.code ||| bitsAt 16 4 ((s.claim w).waitList.length + 1)) 0) ∧
        t.record r =
          { phase := .waiting, slot := c, window := w, mode := m, tag := e.tag, counter := e.param1.extractLsb' 0 16,
            beneficiary := false } ∧
        SameOtherRecords r s t ∧ t.windows = s.windows ∧ SameOtherWindows w s t ∧
        t.claim w = { s.claim w with waitList := (s.claim w).waitList ++ [r] } ∧ t.notices = s.notices)

/-- WITHDRAW retires the caller's waiting claim, or clears its pending upgrade and leaves its hold as it is; a grant pass
on the window follows either (R54, R55, R56). -/
def Obligations.WithdrawEffect : Prop :=
  ∀ (s : State) (c : SlotId) (e : CommandEntry) (w : WindowId), TakesFromActive s c e 0x04 → NamesWindow e w →
    (s.window w).state ≠ .undefined →
    (∀ r, s.waitingOf c w = some r →
      exec .withdraw s =
        .next ((((s.popCommand c).retire r).grantPass w).pushResponse c e (Reply.success .ok (bitsAt 0 7 r.val) 0))) ∧
    (∀ r, s.waitingOf c w = none → (s.claim w).upgrader = some c → s.holdOf c w = some r →
      exec .withdraw s =
        .next ((((s.popCommand c).setClaim w { s.claim w with upgrader := none }).grantPass w).pushResponse c e
          (Reply.success .ok (bitsAt 0 7 r.val ||| bitAt 8 true) 0))) ∧
    (s.waitingOf c w = none → (s.claim w).upgrader ≠ some c →
      ∃ t, exec .withdraw s = .next t ∧ OnlyAnswered s t c e (Reply.refusal .notWaiting))

/-! ### Hold commands -/

/-- A hold command of a caller with no hold on the window is refused with NOT_HELD; on a RECALLED hold RENEW, UPGRADE and
DOWNGRADE are refused with RECALLED, and TRANSFER with RECALL_PENDING under a recall and with RECALLED otherwise (R62,
R66, R68, R71, R73). -/
def Obligations.HoldCommandChecks : Prop :=
  ∀ (s : State) (c : SlotId) (e : CommandEntry) (w : WindowId), NamesWindow e w → (s.window w).state ≠ .undefined →
    ∀ p ∈ [(Instr.release, (0x05 : BitVec 8)), (.renew, 0x06), (.upgrade, 0x07), (.downgrade, 0x08), (.transfer, 0x09)],
      TakesFromActive s c e p.2 → (p.1 = .transfer → (lowByte e.param1).toNat < 8) →
      ∃ t, exec p.1 s = .next t ∧
        (s.holdOf c w = none → OnlyAnswered s t c e (Reply.refusal .notHeld)) ∧
        ∀ r, s.holdOf c w = some r → (s.record r).phase = .recalled →
          (p.1 ∈ [.renew, .upgrade, .downgrade] → OnlyAnswered s t c e (Reply.refusal .recalled)) ∧
          (p.1 = .transfer → OnlyAnswered s t c e
            (Reply.refusal (if (s.claim w).marker ≠ .idle then .recallPending else .recalled)))

/-- RELEASE retires the caller's hold, in whichever hold state, with the follow-ups of R35, and answers the record, the
state it was in and the window's state afterwards (R63). -/
def Obligations.ReleaseEffect : Prop :=
  ∀ (s : State) (c : SlotId) (e : CommandEntry) (w : WindowId) (r : RecordId), TakesOnHold s c e 0x05 w r →
    exec .release s =
      .next ((((s.popCommand c).retire r).followUps w true none).pushResponse c e
        (Reply.success .ok
          (bitsAt 0 7 r.val ||| bitsAt 8 3 (s.record r).phase.code |||
            bitsAt 12 2 ((((s.popCommand c).retire r).followUps w true none).window w).state.code) 0))

/-- RENEW of a HELD or LAPSING hold makes it HELD with the window's lease in the counter, and changes nothing else
(R66). -/
def Obligations.RenewEffect : Prop :=
  ∀ (s : State) (c : SlotId) (e : CommandEntry) (w : WindowId) (r : RecordId), TakesOnHold s c e 0x06 w r →
    (s.record r).phase ≠ .recalled → ∃ t, exec .renew s = .next t ∧
      AnsweredInTables s t c e
        (Reply.success .ok (bitsAt 0 7 r.val ||| bitsAt 8 1 (s.record r).mode.code)
          (bitsAt 0 16 (s.window w).lease.toNat)) ∧
      t.record r = { s.record r with phase := .held, counter := (s.window w).lease } ∧
      SameOtherRecords r s t ∧ t.windows = s.windows ∧ t.claims = s.claims ∧ t.notices = s.notices

/-- UPGRADE of a SHARED hold that is not RECALLED: the sole holder becomes EXCLUSIVE at once with a full lease; with other
holders the caller becomes the pending upgrader, or stays it; and another slot's pending upgrade is a conflict. No waiting
claim is granted (R68, R69, R70). -/
def Obligations.UpgradeEffect : Prop :=
  ∀ (s : State) (c : SlotId) (e : CommandEntry) (w : WindowId) (r : RecordId), TakesOnHold s c e 0x07 w r →
    (s.record r).phase ≠ .recalled →
    ((s.record r).mode = .exclusive → ∃ t, exec .upgrade s = .next t ∧
      OnlyAnswered s t c e (Reply.refusal .notShared)) ∧
    (∀ u, (s.record r).mode = .shared → (s.claim w).upgrader = some u → u ≠ c → ∃ t, exec .upgrade s = .next t ∧
      OnlyAnswered s t c e (Reply.refusal .upgradeConflict)) ∧
    ((s.record r).mode = .shared → (s.claim w).upgrader = none → s.holders w = [r] →
      ∃ t, exec .upgrade s = .next t ∧
        AnsweredInTables s t c e (Reply.success .ok (bitsAt 0 7 r.val ||| bitsAt 8 1 1) 0) ∧
        t.record r = { s.record r with phase := .held, mode := .exclusive, counter := (s.window w).lease } ∧
        SameOtherRecords r s t ∧ t.windows = s.windows ∧ t.claims = s.claims ∧ t.notices = s.notices) ∧
    ((s.record r).mode = .shared → (s.claim w).upgrader = none → s.holders w ≠ [r] →
      ∃ t, exec .upgrade s = .next t ∧
        AnsweredInTables s t c e
          (Reply.success .queued (bitsAt 0 7 r.val ||| bitsAt 16 4 ((s.holders w).length - 1)) 0) ∧
        t.claim w = { s.claim w with upgrader := some c } ∧ SameOtherWindows w s t ∧ t.windows = s.windows ∧
        t.records = s.records ∧ t.notices = s.notices) ∧
    ((s.record r).mode = .shared → (s.claim w).upgrader = some c → s.holders w ≠ [r] →
      ∃ t, exec .upgrade s = .next t ∧
        OnlyAnswered s t c e
          (Reply.success .queued (bitsAt 0 7 r.val ||| bitsAt 16 4 ((s.holders w).length - 1)) 0))

/-- DOWNGRADE of an EXCLUSIVE hold on a SHARED_ALLOWED window makes it SHARED and HELD with a full lease, and a grant pass
follows; a SHARED hold gives NOT_EXCLUSIVE and an EXCLUSIVE_ONLY window NOT_SHARABLE (R71, R72). -/
def Obligations.DowngradeEffect : Prop :=
  ∀ (s : State) (c : SlotId) (e : CommandEntry) (w : WindowId) (r : RecordId), TakesOnHold s c e 0x08 w r →
    (s.record r).phase ≠ .recalled →
    ((s.record r).mode = .shared → ∃ t, exec .downgrade s = .next t ∧
      OnlyAnswered s t c e (Reply.refusal .notExclusive)) ∧
    ((s.record r).mode = .exclusive → (s.window w).share ≠ .sharedAllowed → ∃ t, exec .downgrade s = .next t ∧
      OnlyAnswered s t c e (Reply.refusal .notSharable)) ∧
    ((s.record r).mode = .exclusive → (s.window w).share = .sharedAllowed →
      exec .downgrade s =
        .next ((((s.popCommand c).setRecord r
            { s.record r with phase := .held, mode := .shared, counter := (s.window w).lease }).grantPass w).pushResponse
          c e (Reply.success .ok (bitsAt 0 7 r.val) 0)))

/-- TRANSFER of an EXCLUSIVE hold to a slot waiting EXCLUSIVE: the caller's record is FREE, the waiter's is the hold with a
full lease, the others keep their order in the wait list, and the new holder receives GRANTED; no grant pass runs (R73,
R74). -/
def Obligations.TransferEffect : Prop :=
  ∀ (s : State) (c : SlotId) (e : CommandEntry) (w : WindowId) (r : RecordId) (n : SlotId), TakesOnHold s c e 0x09 w r →
    NamesSlot e.param1 n → (s.claim w).marker = .idle → (s.record r).phase ≠ .recalled →
    ((s.record r).mode = .shared → ∃ t, exec .transfer s = .next t ∧
      OnlyAnswered s t c e (Reply.refusal .notExclusive)) ∧
    ((s.record r).mode = .exclusive → (∀ q, s.waitingOf n w = some q → (s.record q).mode = .shared) →
      ∃ t, exec .transfer s = .next t ∧ OnlyAnswered s t c e (Reply.refusal .noExclusiveWaiter)) ∧
    ∀ q, (s.record r).mode = .exclusive → s.waitingOf n w = some q → (s.record q).mode = .exclusive →
      ∃ t, exec .transfer s = .next t ∧
        AnsweredInTables s t c e
          (Reply.success .ok (bitsAt 0 7 r.val ||| bitsAt 16 3 n.val) (bitsAt 0 7 q.val)) ∧
        t.record r = ClaimRecord.cleared ∧
        t.record q = { s.record q with phase := .held, counter := (s.window w).lease, beneficiary := false } ∧
        (∀ p, p ≠ r → p ≠ q → t.record p = s.record p) ∧
        t.claim w =
          { s.claim w with
            waitList := (s.claim w).waitList.erase q
            upgrader := if (s.claim w).upgrader = some c then none else (s.claim w).upgrader } ∧
        SameOtherWindows w s t ∧ t.windows = s.windows ∧
        Posted s t [(n, .window w, .granted .exclusive (s.record q).tag)]

/-! ### Windows -/

/-- DEFINE on an UNDEFINED or CLOSED window, with every field in range and no shared address with another defined window,
writes the definition and makes the window CLOSED; a field out of range gives BAD_PARAM, an OPEN or DRAINING window
WINDOW_BUSY and an overlap OVERLAP (R6, R7, R8, R9). -/
def Obligations.DefineWritesDefinition : Prop :=
  ∀ (s : State) (c : SlotId) (e : CommandEntry), TakesFromMaster s c e 0x10 →
    (32 ≤ (lowByte e.param0).toNat ∨ e.param0.extractLsb' 8 4 = 15 ∨ 6 ≤ (e.param0.extractLsb' 12 3).toNat ∨
        e.param0.extractLsb' 16 2 = 0 ∨ e.param0.extractLsb' 16 2 = 3 ∨ e.param0.extractLsb' 18 2 = 3 ∨
        e.param1.toNat < 0x40000000 ∨ 0x80000000 ≤ e.param1.toNat ∨
        e.param1.toNat % (4096 * 2 ^ (e.param0.extractLsb' 8 4).toNat) ≠ 0 ∨ e.param2.extractLsb' 16 8 = 0 ∨
        e.param2.extractLsb' 24 8 = 0 →
      ∃ t, exec .define s = .next t ∧ OnlyAnswered s t c e (Reply.refusal .badParam)) ∧
    ∀ (w : WindowId) (size : SizeCode) (target : TargetId) (share : SharePolicy) (foreign : ForeignPolicy),
    NamesWindow e w → e.defineSize = some size → e.defineTarget = some target → e.defineShare = some share →
    e.defineForeign = some foreign → 0x40000000 ≤ e.param1.toNat → e.param1.toNat < 0x80000000 →
    e.param1.toNat % (4096 * 2 ^ size.val) = 0 → e.param2.extractLsb' 16 8 ≠ 0 → e.param2.extractLsb' 24 8 ≠ 0 →
    ∃ t, exec .define s = .next t ∧
      ((s.window w).state = .opened ∨ (s.window w).state = .draining →
        OnlyAnswered s t c e (Reply.refusal .windowBusy)) ∧
      ((s.window w).state = .undefined ∨ (s.window w).state = .closed →
        ((∀ v, v ≠ w → (s.window v).state ≠ .undefined →
            (s.window v).base.toNat + 4096 * 2 ^ (s.window v).sizeCode.val ≤ e.param1.toNat ∨
            e.param1.toNat + 4096 * 2 ^ size.val ≤ (s.window v).base.toNat) →
          AnsweredInTables s t c e (Reply.success .ok (bitsAt 0 8 w.val ||| bitsAt 8 2 1) 0) ∧
          t.window w =
            { state := .closed, base := e.param1, sizeCode := size, target := target, share := share,
              foreign := foreign, renewOnAccess := e.param0.getLsbD 20, lease := e.param2.extractLsb' 0 16,
              grace := e.param2.extractLsb' 16 8, recallLimit := e.param2.extractLsb' 24 8 } ∧
          (∀ v, v ≠ w → t.window v = s.window v) ∧ t.records = s.records ∧ t.claims = s.claims ∧
          t.notices = s.notices) ∧
        (∀ v, v ≠ w → (s.window v).state ≠ .undefined →
          e.param1.toNat < (s.window v).base.toNat + 4096 * 2 ^ (s.window v).sizeCode.val →
          (s.window v).base.toNat < e.param1.toNat + 4096 * 2 ^ size.val →
          OnlyAnswered s t c e (Reply.refusal .overlap)))

/-- UNDEFINE clears a CLOSED window's record; OPEN makes a CLOSED window OPEN with its definition, and runs a grant pass
that has nothing to grant; OPEN of an OPEN window changes nothing, and on a DRAINING window both give WINDOW_BUSY (R10,
R11). -/
def Obligations.UndefineAndOpenEffect : Prop :=
  ∀ (s : State) (c : SlotId) (e : CommandEntry) (w : WindowId), NamesWindow e w →
    (TakesFromMaster s c e 0x11 → ∃ t, exec .undefine s = .next t ∧
      ((s.window w).state = .closed →
        AnsweredInTables s t c e (Reply.success .ok (bitsAt 0 8 w.val) 0) ∧ t.window w = WindowRecord.cleared ∧
        (∀ v, v ≠ w → t.window v = s.window v) ∧ t.records = s.records ∧ t.claims = s.claims ∧
        t.notices = s.notices) ∧
      ((s.window w).state = .opened ∨ (s.window w).state = .draining →
        OnlyAnswered s t c e (Reply.refusal .windowBusy))) ∧
    (TakesFromMaster s c e 0x12 → ∃ t, exec .openWindow s = .next t ∧
      ((s.window w).state = .closed → (s.claim w).waitList = [] → (s.claim w).upgrader = none →
        AnsweredInTables s t c e (Reply.success .ok (bitsAt 0 8 w.val ||| bitsAt 8 2 2) 0) ∧
        t.window w = { s.window w with state := .opened } ∧
        (∀ v, v ≠ w → t.window v = s.window v) ∧ t.records = s.records ∧ t.claims = s.claims ∧
        t.notices = s.notices) ∧
      ((s.window w).state = .opened →
        OnlyAnswered s t c e (Reply.success .ok (bitsAt 0 8 w.val ||| bitsAt 8 2 2) 0)) ∧
      ((s.window w).state = .draining → OnlyAnswered s t c e (Reply.refusal .windowBusy)))

/-- CLOSE of an OPEN window: without holds it is CLOSED at once, with WINDOW_CLOSED to the caller; with holds every waiting
claim is withdrawn in list order, the upgrader and the marker are cleared, every hold not yet RECALLED becomes so with the
recall limit, and the window drains. CLOSE of a CLOSED or DRAINING window changes nothing (R12, R102, R103). -/
def Obligations.CloseEffect : Prop :=
  ∀ (s : State) (c : SlotId) (e : CommandEntry) (w : WindowId), ClaimsLawful s → TakesFromMaster s c e 0x13 →
    NamesWindow e w → (s.window w).state ≠ .undefined → ∃ t, exec .closeWindow s = .next t ∧
      ((s.window w).state ≠ .opened →
        OnlyAnswered s t c e (Reply.success .ok (bitsAt 0 8 w.val ||| bitsAt 8 2 (s.window w).state.code) 0)) ∧
      ((s.window w).state = .opened → s.holders w = [] → (s.claim w).waitList = [] →
        AnsweredInTables s t c e (Reply.success .ok (bitsAt 0 8 w.val ||| bitsAt 8 2 1) 0) ∧
        t.window w = { s.window w with state := .closed } ∧ t.claim w = { s.claim w with upgrader := none } ∧
        SameOtherWindows w s t ∧ t.records = s.records ∧ Posted s t [(c, .window w, .windowClosed)]) ∧
      ((s.window w).state = .opened → s.holders w ≠ [] →
        AnsweredInTables s t c e (Reply.success .ok (bitsAt 0 8 w.val ||| bitsAt 8 2 3) 0) ∧
        t.window w = { s.window w with state := .draining } ∧ t.claim w = WindowClaims.cleared ∧
        SameOtherWindows w s t ∧
        (∀ r, t.record r =
          if (s.record r).window ≠ w then s.record r
          else if (s.record r).phase = .waiting then ClaimRecord.cleared
          else if (s.record r).phase = .held ∨ (s.record r).phase = .lapsing then
            { s.record r with phase := .recalled, counter := (s.window w).recallLimit.setWidth 16 }
          else s.record r) ∧
        Posted s t
          ((s.claim w).waitList.map (fun r => ((s.record r).slot, .window w, .withdrawn .closing)) ++
            ((s.holders w).filter fun r => decide ((s.record r).phase ≠ .recalled)).map fun r =>
              ((s.record r).slot, .window w,
                .recalled (s.window w).recallLimit (decide ((s.claim w).upgrader = some (s.record r).slot)))))

/-- The checks of RECALL from step 5 on, in their order (R94). -/
def Obligations.RecallChecksInOrder : Prop :=
  ∀ (s : State) (c : SlotId) (e : CommandEntry) (w : WindowId) (b : Option SlotId), TakesFromMaster s c e 0x14 →
    NamesWindow e w → (e.param1.getLsbD 8 = true ↔ b ≠ none) → (∀ n, b = some n → NamesSlot e.param1 n) →
    ∃ t, exec .recallWindow s = .next t ∧
      if (s.window w).state = .undefined then OnlyAnswered s t c e (Reply.refusal .noWindow)
      else if (s.window w).state ≠ .opened then OnlyAnswered s t c e (Reply.refusal .windowClosed)
      else if (s.claim w).marker ≠ .idle then OnlyAnswered s t c e (Reply.refusal .recallPending)
      else ∀ n, b = some n →
        if (s.slot n).state ≠ .active then OnlyAnswered s t c e (Reply.refusal .slotNotActive)
        else if s.holdOf n w ≠ none then OnlyAnswered s t c e (Reply.refusal .alreadyHeld)
        else if s.waitingOf n w = none ∧ (s.slot n).quota ≤ s.inUse n then
          OnlyAnswered s t c e (Reply.refusal .quotaFull)
        else s.waitingOf n w = none → s.lowestFree = none → OnlyAnswered s t c e (Reply.refusal .poolEmpty)

/-- RECALL of an OPEN window that has holds recalls every hold, in record order, clears the upgrader, sets the marker and
places the beneficiary at the head of the wait list; no grant pass runs (R95, R96). -/
def Obligations.RecallOfHeldWindow : Prop :=
  ∀ (s : State) (c : SlotId) (e : CommandEntry) (w : WindowId), ClaimsLawful s → RecallsLawful s →
    TakesFromMaster s c e 0x14 → NamesWindow e w → (s.window w).state = .opened → (s.claim w).marker = .idle →
    s.holders w ≠ [] →
    ∀ (b : Option SlotId) (place : Option RecordId),
      (e.param1.getLsbD 8 = true ↔ b ≠ none) → (b = none → place = none) →
      (∀ n, b = some n → NamesSlot e.param1 n ∧ (s.slot n).state = .active ∧ s.holdOf n w = none ∧
        ((place ≠ none ∧ s.waitingOf n w = place) ∨
          (s.waitingOf n w = none ∧ s.inUse n < (s.slot n).quota ∧ place ≠ none ∧ s.lowestFree = place))) →
      ∃ t, exec .recallWindow s = .next t ∧
        AnsweredInTables s t c e
          (Reply.success .ok
            (bitsAt 0 4 (s.holders w).length ||| bitAt 4 true ||| bitAt 5 place.isSome)
            (match place with | none => 0 | some r => bitsAt 0 7 r.val)) ∧
        t.windows = s.windows ∧ SameOtherWindows w s t ∧
        t.claim w =
          { waitList := place.toList ++ (s.claim w).waitList.filter fun r => decide (place ≠ some r)
            upgrader := none
            marker := .inProgress b } ∧
        (∀ r, t.record r =
          if s.isHoldOn w r = true then
            { s.record r with phase := .recalled, counter := (s.window w).recallLimit.setWidth 16 }
          else if place = some r ∧ (s.record r).phase = .waiting then { s.record r with beneficiary := true }
          else if place = some r then
            { phase := .waiting, slot := b.getD 0, window := w, mode := .exclusive, tag := 0, counter := 0,
              beneficiary := true }
          else s.record r) ∧
        Posted s t
          ((s.holders w).map fun r =>
            ((s.record r).slot, .window w,
              .recalled (s.window w).recallLimit (decide ((s.claim w).upgrader = some (s.record r).slot))))

/-- RECALL of an OPEN window without holds sets no marker: without a beneficiary it changes nothing, and with one that
slot's new record is granted at once, EXCLUSIVE with tag 0 and a full lease (R97). -/
def Obligations.RecallOfUnheldWindow : Prop :=
  ∀ (s : State) (c : SlotId) (e : CommandEntry) (w : WindowId), TakesFromMaster s c e 0x14 → NamesWindow e w →
    (s.window w).state = .opened → (s.claim w).marker = .idle → s.holders w = [] → (s.claim w).waitList = [] →
    (s.claim w).upgrader = none →
    (e.param1.getLsbD 8 = false → ∃ t, exec .recallWindow s = .next t ∧
      OnlyAnswered s t c e (Reply.success .ok 0 0)) ∧
    ∀ n r, e.param1.getLsbD 8 = true → NamesSlot e.param1 n → (s.slot n).state = .active → s.waitingOf n w = none →
      s.inUse n < (s.slot n).quota → s.lowestFree = some r →
      ∃ t, exec .recallWindow s = .next t ∧
        AnsweredInTables s t c e (Reply.success .ok (bitAt 5 true) (bitsAt 0 7 r.val)) ∧
        t.record r =
          { phase := .held, slot := n, window := w, mode := .exclusive, tag := 0, counter := (s.window w).lease,
            beneficiary := false } ∧
        SameOtherRecords r s t ∧ t.windows = s.windows ∧ (∀ v, t.claim v = s.claim v) ∧
        Posted s t [(n, .window w, .granted .exclusive 0)]

/-! ### The control block -/

/-- RESP_POP removes the head response, NOTICE_POP the head notice with the holding word kept, NOTICE0_READ copies the head
notice's detail into the holding word and answers its kind and subject, and ATTN_EN_WRITE sets the enable from bit 0;
empty queues stay empty, and the values written to the pops are ignored (R151, R152, R154, R158, R163). The model's
choices: that the cycle before has ended, so that none is in hand, and that the answer and the word read stand in
portAnswer (log entry 6; R111); and that the bits of NOTICE0 and NOTICE1 that 10.8 assigns to no field are 0 (log entry
13). -/
def Obligations.PortPopsReadsAndEnable : Prop :=
  ∀ (s : State) (n : SlotId) (value : Word), s.porAsserted = false → (s.slot n).state ≠ .absent →
    (∃ t, exec (.respPop n value) s = .next t ∧ PortCycleDone s t n (.accepted 0) ∧
      t.port n = { s.port n with responses := (s.port n).responses.drop 1 } ∧ t.queue n = s.queue n) ∧
    (∃ t, exec (.noticePop n value) s = .next t ∧ PortCycleDone s t n (.accepted 0) ∧ t.port n = s.port n ∧
      t.queue n = (s.queue n).drop 1) ∧
    (∃ t, exec (.attnEnWrite n value) s = .next t ∧ PortCycleDone s t n (.accepted 0) ∧
      t.port n = { s.port n with attnEnable := value.getLsbD 0 } ∧ t.queue n = s.queue n) ∧
    (s.queue n = [] → ∃ t, exec (.notice0Read n) s = .next t ∧ PortCycleDone s t n (.accepted 0) ∧
      t.port n = { s.port n with holding := 0 } ∧ t.queue n = []) ∧
    ∀ k back, s.queue n = k :: back → ∃ t data, exec (.notice0Read n) s = .next t ∧
      PortCycleDone s t n (.accepted data) ∧ data.extractLsb' 0 8 = BitVec.ofNat 8 k.body.kind ∧
      data.extractLsb' 8 8 = BitVec.ofNat 8 k.subject.code ∧ data.getLsbD 16 = k.folded ∧
      data.extractLsb' 17 15 = 0 ∧ t.port n = { s.port n with holding := k.body.word1 } ∧ t.queue n = s.queue n

/-- A 32-bit aligned write in the control block: PARAM0 to PARAM2 take the value; COMMAND pushes an entry with a copy of
the parameters unless the FIFO is full; ATTN_EN, RESP_POP and NOTICE_POP act as their own rows; every other write, and
every write of another width or alignment, is refused and changes no register, FIFO or queue (R157, R158, R159, R160). That
the cycle before has ended, so that none is in hand, and that the answer stands in portAnswer, with 0 for a write, is the
model's choice (log entry 6; R111). -/
def Obligations.ControlBlockWrites : Prop :=
  ∀ (s : State) (n : SlotId) (addr value : Word) (width : Nat), s.porAsserted = false → inControlBlock addr = true →
    ∃ t, exec (.controlBlockWrite n addr width value) s = .next t ∧
      ((s.slot n).state = .absent →
        PortCycleDone s t n .refused ∧ t.port n = s.port n ∧ t.queue n = s.queue n) ∧
      ((s.slot n).state ≠ .absent →
        (width ≠ 32 ∨ addr.toNat % 4 ≠ 0 →
          PortCycleDone s t n .refused ∧ t.port n = s.port n ∧ t.queue n = s.queue n) ∧
        (width = 32 →
          (addr = 0x4A08 → PortCycleDone s t n (.accepted 0) ∧ t.port n = { s.port n with param0 := value } ∧
            t.queue n = s.queue n) ∧
          (addr = 0x4A0C → PortCycleDone s t n (.accepted 0) ∧ t.port n = { s.port n with param1 := value } ∧
            t.queue n = s.queue n) ∧
          (addr = 0x4A10 → PortCycleDone s t n (.accepted 0) ∧ t.port n = { s.port n with param2 := value } ∧
            t.queue n = s.queue n) ∧
          (addr = 0x4A14 → (s.port n).commands.length < 4 → PortCycleDone s t n (.accepted 0) ∧
            t.port n =
              { s.port n with
                commands := (s.port n).commands ++
                  [{ opcode := value.extractLsb' 0 8, tag := value.extractLsb' 8 8, param0 := (s.port n).param0,
                     param1 := (s.port n).param1, param2 := (s.port n).param2 }] } ∧
            t.queue n = s.queue n) ∧
          (addr = 0x4A14 → 4 ≤ (s.port n).commands.length →
            PortCycleDone s t n .refused ∧ t.port n = s.port n ∧ t.queue n = s.queue n) ∧
          (addr = 0x4A04 → .next t = exec (.attnEnWrite n value) s) ∧
          (addr = 0x4A24 → .next t = exec (.respPop n value) s) ∧
          (addr = 0x4A30 → .next t = exec (.noticePop n value) s) ∧
          (addr ∈ [0x4A00, 0x4A18, 0x4A1C, 0x4A20, 0x4A28, 0x4A2C, 0x4A34, 0x4A38, 0x4A3C] →
            PortCycleDone s t n .refused ∧ t.port n = s.port n ∧ t.queue n = s.queue n)))

/-- A 32-bit aligned read in the control block answers the register's content and changes no register, FIFO or queue but the
holding word of a NOTICE0 read; COMMAND, RESP_POP and NOTICE_POP read 0; offsets 34h to 3Fh and other widths or alignments are refused
(R154, R157, R158, R159, R163, R164). That the cycle before has ended, so that none is in hand, and that the word read
stands in portAnswer, is the model's choice (log entry 6; R111). -/
def Obligations.ControlBlockReads : Prop :=
  ∀ (s : State) (n : SlotId) (addr : Word) (width : Nat), s.porAsserted = false → inControlBlock addr = true →
    ∃ t, exec (.controlBlockRead n addr width) s = .next t ∧ t.queue n = s.queue n ∧
      (addr ≠ 0x4A28 → t.port n = s.port n) ∧
      ((s.slot n).state = .absent ∨ width ≠ 32 ∨ addr.toNat % 4 ≠ 0 ∨ 0x4A34 ≤ addr.toNat →
        PortCycleDone s t n .refused ∧ t.port n = s.port n) ∧
      ((s.slot n).state ≠ .absent → width = 32 →
        (addr = 0x4A00 → ∃ d, PortCycleDone s t n (.accepted d) ∧
          d.extractLsb' 0 3 = BitVec.ofNat 3 (4 - (s.port n).commands.length) ∧
          d.extractLsb' 4 3 = BitVec.ofNat 3 (s.port n).responses.length ∧
          d.extractLsb' 8 6 = BitVec.ofNat 6 (s.queue n).length ∧
          d.extractLsb' 16 2 = BitVec.ofNat 2 (s.slot n).state.code ∧
          d.extractLsb' 20 3 = BitVec.ofNat 3 (s.slot n).exitReason.code ∧
          d.getLsbD 24 = decide (s.master = some n)) ∧
        (addr = 0x4A04 → PortCycleDone s t n (.accepted (if (s.port n).attnEnable then 1 else 0))) ∧
        (addr = 0x4A08 → PortCycleDone s t n (.accepted (s.port n).param0)) ∧
        (addr = 0x4A0C → PortCycleDone s t n (.accepted (s.port n).param1)) ∧
        (addr = 0x4A10 → PortCycleDone s t n (.accepted (s.port n).param2)) ∧
        (addr ∈ [0x4A14, 0x4A24, 0x4A30] → PortCycleDone s t n (.accepted 0)) ∧
        (addr = 0x4A18 → ∀ x back, (s.port n).responses = x :: back → ∃ d, PortCycleDone s t n (.accepted d) ∧
          d.extractLsb' 0 8 = x.tag ∧ d.extractLsb' 8 8 = x.opcode ∧
          d.extractLsb' 16 5 = BitVec.ofNat 5 x.outcome.code ∧ d.extractLsb' 21 11 = x.ext) ∧
        (addr = 0x4A1C → ∀ x back, (s.port n).responses = x :: back → PortCycleDone s t n (.accepted x.word1)) ∧
        (addr = 0x4A20 → ∀ x back, (s.port n).responses = x :: back → PortCycleDone s t n (.accepted x.word2)) ∧
        (addr ∈ [0x4A18, 0x4A1C, 0x4A20] → (s.port n).responses = [] → PortCycleDone s t n (.accepted 0)) ∧
        (addr = 0x4A28 → .next t = exec (.notice0Read n) s) ∧
        (addr = 0x4A2C → PortCycleDone s t n (.accepted (s.port n).holding)))

/-! ### Backplane cycles -/

/-- The decode of an address: the one window, not UNDEFINED, whose extent contains it, and UNMAPPED where there is none;
the width does not enter (R14, R111). That the row CYCLE_CHECK with an address outside the shared space, which R14 says is
not presented, leaves the state as it is, is the model's reading (log entry 7). -/
def Obligations.AddressDecode : Prop :=
  ∀ (s : State) (addr : Word), WindowsLawful s →
    (∀ w, s.decodeAddress addr = some w ↔
      (s.window w).state ≠ .undefined ∧ (s.window w).base.toNat ≤ addr.toNat ∧
        addr.toNat ≤ (s.window w).base.toNat + 4096 * 2 ^ (s.window w).sizeCode.val - 1) ∧
    (s.decodeAddress addr = none ↔ ∀ w, (s.window w).state = .undefined ∨ addr.toNat < (s.window w).base.toNat ∨
      (s.window w).base.toNat + 4096 * 2 ^ (s.window w).sizeCode.val - 1 < addr.toNat) ∧
    ∀ n kind width, (∀ width', exec (.cycleCheck n addr kind width) s = exec (.cycleCheck n addr kind width') s) ∧
      (inSharedSpace addr = false → exec (.cycleCheck n addr kind width) s = .next s)

/-- The ordered tests of a shared-space cycle: the first that applies decides whether it is passed to its window's target,
held off, or refused with VIOLATION and its cause (R112, with R117's foreign policies at test 6). -/
def Obligations.CycleDecidedByTests : Prop :=
  ∀ (s : State) (n : SlotId) (addr : Word) (kind : AccessKind) (width : Nat), s.porAsserted = false →
    inSharedSpace addr = true → ∃ t d, exec (.cycleCheck n addr kind width) s = .next t ∧ t.inHand = some d ∧
      ((s.slot n).state ≠ .active →
        d = .refuse ∧ Posted s t [(n, s.violationSubject addr, .violation kind .slotNotActive)]) ∧
      ((s.slot n).state = .active →
        (s.decodeAddress addr = none → d = .refuse ∧ Posted s t [(n, .unmapped, .violation kind .unmapped)]) ∧
        ∀ w, s.decodeAddress addr = some w →
          ((s.window w).state = .closed →
            d = .refuse ∧ Posted s t [(n, .window w, .violation kind .windowNotOpen)]) ∧
          ((s.window w).state ≠ .closed →
            (∀ r, s.holdOf n w = some r → (s.record r).mode = .exclusive → d = .pass (s.window w).target) ∧
            (∀ r, s.holdOf n w = some r → (s.record r).mode = .shared → kind = .read → d = .pass (s.window w).target) ∧
            (∀ r, s.holdOf n w = some r → (s.record r).mode = .shared → kind = .write →
              d = .refuse ∧ Posted s t [(n, .window w, .violation kind .sharedWrite)]) ∧
            (s.holdOf n w = none →
              ((s.window w).foreign = .refuse →
                d = .refuse ∧ Posted s t [(n, .window w, .violation kind .notHolder)]) ∧
              ((s.window w).foreign = .holdoff → d = .holdOff) ∧
              ((s.window w).foreign = .readThrough → kind = .read → d = .pass (s.window w).target) ∧
              ((s.window w).foreign = .readThrough → kind = .write →
                d = .refuse ∧ Posted s t [(n, .window w, .violation kind .notHolder)]))))

/-- What a checked cycle changes: the cycle in hand, with its one select line or termination; an ACTIVE initiator's silence
counter; on a pass by a HELD or LAPSING hold on a renew-on-access window, that hold's lease; on a refusal, a VIOLATION to
the initiator with its cause; and nothing else but portAnswer. The end of the cycle drops it and drives nothing (R89, R111,
R113, R118 to R122). That a checked cycle clears portAnswer, the answer of a control-block cycle before it, is the model's
choice (log entry 6). -/
def Obligations.CycleEffects : Prop :=
  ∀ (s : State) (n : SlotId) (addr : Word) (kind : AccessKind) (width : Nat), s.porAsserted = false →
    inSharedSpace addr = true →
    (∃ t, exec (.cycleCheck n addr kind width) s = .next t ∧ t.portAnswer = .idle ∧
      t.slot n = (if (s.slot n).state = .active then { s.slot n with silence := s.silenceLimit } else s.slot n) ∧
      SameOtherSlots n s t ∧ t.windows = s.windows ∧ t.claims = s.claims ∧ SameRole s t ∧ SameClock s t ∧
      t.ports = s.ports ∧ t.pointer = s.pointer ∧ t.presLines = s.presLines ∧ t.porAsserted = s.porAsserted ∧
      t.pending = s.pending ∧
      (∀ target, t.inHand = some (.pass target) →
        (∀ x, t.ts x = decide (x = target)) ∧ t.terr = false ∧ t.trty = false ∧ t.notices = s.notices) ∧
      (t.inHand = some .refuse → (∀ x, t.ts x = false) ∧ t.terr = true ∧ t.trty = false) ∧
      (t.inHand = some .holdOff → (∀ x, t.ts x = false) ∧ t.terr = false ∧ t.trty = true ∧ t.notices = s.notices) ∧
      ((s.slot n).state ≠ .active →
        Posted s t [(n, s.violationSubject addr, .violation kind .slotNotActive)]) ∧
      ((s.slot n).state = .active → s.decodeAddress addr = none →
        Posted s t [(n, .unmapped, .violation kind .unmapped)]) ∧
      (∀ w, (s.slot n).state = .active → s.decodeAddress addr = some w →
        ((s.window w).state = .closed → Posted s t [(n, .window w, .violation kind .windowNotOpen)]) ∧
        ((s.window w).state ≠ .closed → t.inHand = some .refuse → s.holdOf n w ≠ none →
          Posted s t [(n, .window w, .violation kind .sharedWrite)]) ∧
        ((s.window w).state ≠ .closed → t.inHand = some .refuse → s.holdOf n w = none →
          Posted s t [(n, .window w, .violation kind .notHolder)])) ∧
      ∀ r, t.record r =
        if ∃ w target, s.decodeAddress addr = some w ∧ s.holdOf n w = some r ∧ t.inHand = some (.pass target) ∧
            (s.window w).renewOnAccess = true ∧ (s.record r).phase ≠ .recalled then
          { s.record r with phase := .held, counter := (s.window (s.record r).window).lease }
        else s.record r) ∧
    ∃ t, exec .cycleEnd s = .next t ∧ t.inHand = none ∧ t.portAnswer = .idle ∧ (∀ x, t.ts x = false) ∧
      t.terr = false ∧ t.trty = false ∧ t.cback = false ∧ SameTables s t ∧ SameRole s t ∧ SameClock s t ∧
      t.slots = s.slots ∧ t.ports = s.ports ∧ t.notices = s.notices ∧ t.pointer = s.pointer ∧
      t.presLines = s.presLines ∧ t.porAsserted = s.porAsserted ∧ t.pending = s.pending

/-- No write passes into a window unless its initiator is ACTIVE and holds that window EXCLUSIVE when the cycle is taken;
and so, with the holder law R26, of any two slots at most one has writes passing into a window (R116). -/
def Obligations.WritesPassForExclusiveHolderAlone : Prop :=
  ∀ (s t : State) (n : SlotId) (addr : Word) (width : Nat) (target : TargetId), s.porAsserted = false →
    inSharedSpace addr = true → exec (.cycleCheck n addr .write width) s = .next t →
    t.inHand = some (.pass target) →
    ∃ w r, s.decodeAddress addr = some w ∧ target = (s.window w).target ∧ (s.slot n).state = .active ∧
      s.isHoldOn w r = true ∧ (s.record r).slot = n ∧ (s.record r).mode = .exclusive ∧
      (HoldersLawful s → ∀ (u : State) (m : SlotId) (addr' : Word) (width' : Nat) (target' : TargetId),
        inSharedSpace addr' = true → s.decodeAddress addr' = some w →
        exec (.cycleCheck m addr' .write width') s = .next u → u.inHand = some (.pass target') → m = n)

/-! ### The tick -/

/-- TICK issues one tick to the Claim Table and one to the Slot Table and begins the divider's next period, and changes
nothing else (R79, R82). That the row completes a period whatever the divider has counted is the model's choice (log entry
3), and the two counts of ticks in flight are the model's form of R82 (log entry 5). -/
def Obligations.TickIsIssuedToBothTables : Prop :=
  ∀ (s : State), s.porAsserted = false → ∃ t, exec .tick s = .next t ∧ t.divider = 0 ∧
    t.claimTicksDue = s.claimTicksDue + 1 ∧ t.slotTicksDue = s.slotTicksDue + 1 ∧ t.tickSelect = s.tickSelect ∧
    SameTables s t ∧ SameRole s t ∧ SameOutside s t ∧ t.slots = s.slots ∧ t.ports = s.ports ∧
    t.notices = s.notices ∧ t.pointer = s.pointer

/-- The tick at the Claim Table, taken where one is due, visits windows 0 to 31 in order. On each it counts the counting
records down, makes the transitions of those that reach 0, in record order with their notices, and then makes the
follow-ups once if a record was retired (R24, R82, R83, R88). The count of ticks issued and not yet taken, and that the row
changes nothing where it is 0, are the model's reading of R82 (log entry 5). -/
def Obligations.TickAtTheClaimTable : Prop :=
  (∀ (s : State), s.porAsserted = false →
    (s.claimTicksDue = 0 → exec .claimTableTick s = .next s) ∧
    ∀ k, s.claimTicksDue = k + 1 →
      exec .claimTableTick s = .next (allWindows.foldl State.tickWindow { s with claimTicksDue := k })) ∧
  ∀ (s : State) (w : WindowId), ClaimsLawful s → ∃ m,
    s.tickWindow w =
      (if ∃ r ∈ s.runningOut w, (s.record r).phase ≠ .held then
        m.followUps w (decide (∃ r ∈ s.runningOut w, (s.record r).phase.isHold = true ∧ (s.record r).phase ≠ .held)) none
      else m) ∧
    (∀ r, r ∈ s.runningOut w ↔
      (s.record r).phase ≠ .free ∧ (s.record r).window = w ∧ (s.record r).counter = 1) ∧
    (∀ r, m.record r =
      if (s.record r).window ≠ w ∨ (s.record r).phase = .free then s.record r
      else if (s.record r).counter = 1 then
        if (s.record r).phase = .held then
          { s.record r with phase := .lapsing, counter := (s.window w).grace.setWidth 16 }
        else ClaimRecord.cleared
      else { s.record r with counter := BitVec.ofNat 16 ((s.record r).counter.toNat - 1) }) ∧
    m.windows = s.windows ∧ SameOtherWindows w s m ∧
    (m.claim w).waitList = (s.claim w).waitList.filter (fun r => decide (r ∉ s.runningOut w)) ∧
    (m.claim w).upgrader =
      (if ∃ r ∈ s.runningOut w, (s.claim w).upgrader = some (s.record r).slot ∧ (s.record r).phase.isHold = true ∧
          (s.record r).phase ≠ .held then none else (s.claim w).upgrader) ∧
    (m.claim w).marker =
      (if (s.claim w).marker ≠ .idle ∧
          ∃ r ∈ s.runningOut w, (s.record r).phase = .waiting ∧ (s.record r).beneficiary = true then .inProgress none
        else (s.claim w).marker) ∧
    Posted s m
      ((s.runningOut w).map fun r =>
        ((s.record r).slot, .window w,
          match (s.record r).phase with
          | .held => .lapseWarning (s.window w).grace
          | .lapsing => .lapsed
          | .recalled => .forced
          | _ => .withdrawn .timedOut)) ∧
    SameBesideClaims s m

/-- The tick at the Slot Table, taken where one is due, changes nothing but the count of ticks due while the silence limit is
0; otherwise it visits slots 0 to 7 in order, decreases each ACTIVE slot's counter, and runs the exit of a slot whose
counter reaches 0 before it turns to the next (R82, R134). The count of ticks issued and not yet taken, and that the row
changes nothing where it is 0, are the model's reading of R82 (log entry 5). -/
def Obligations.TickAtTheSlotTable : Prop :=
  ∀ (s : State), s.porAsserted = false →
    (s.slotTicksDue = 0 → exec .slotTableTick s = .next s) ∧
    (∀ k, s.slotTicksDue = k + 1 → s.silenceLimit = 0 → exec .slotTableTick s = .next { s with slotTicksDue := k }) ∧
    (∀ k, s.slotTicksDue = k + 1 → s.silenceLimit ≠ 0 →
      exec .slotTableTick s = .next (allSlots.foldl State.tickSlot { s with slotTicksDue := k })) ∧
    (∀ n, (s.slot n).state ≠ .active → s.tickSlot n = s) ∧
    (∀ n, (s.slot n).state = .active → (s.slot n).silence = 1 → s.tickSlot n = s.exit n .silent) ∧
    (∀ n, (s.slot n).state = .active → 1 < (s.slot n).silence.toNat →
      s.tickSlot n = s.setSlot n { s.slot n with silence := BitVec.ofNat 16 ((s.slot n).silence.toNat - 1) }) ∧
    ∀ k, s.slotTicksDue = k + 1 → s.silenceLimit ≠ 0 →
      (∀ n, (s.slot n).state = .active → 1 < (s.slot n).silence.toNat) →
      ∃ t, exec .slotTableTick s = .next t ∧ t.slotTicksDue = k ∧
        (∀ n, t.slot n =
          if (s.slot n).state = .active then
            { s.slot n with silence := BitVec.ofNat 16 ((s.slot n).silence.toNat - 1) }
          else s.slot n) ∧
        SameTables s t ∧ SameRole s t ∧ SameOutside s t ∧ t.ports = s.ports ∧ t.notices = s.notices ∧
        t.pointer = s.pointer ∧ t.tickSelect = s.tickSelect ∧ t.divider = s.divider ∧ t.claimTicksDue = s.claimTicksDue

/-- The last tick of one record: a wait, a grace or a recall period that runs out retires the record with WITHDRAWN, LAPSED
or FORCED and the follow-ups; a lease that runs out makes the hold LAPSING with the grace and LAPSE_WARNING, and changes
nothing else (R84 to R87). The last tick of one record as a row of its own, apart from the tick at the Claim Table, is the
model's choice (log entry 4). -/
def Obligations.RecordsRunOut : Prop :=
  ∀ (s : State) (r : RecordId) (n : SlotId) (w : WindowId), s.porAsserted = false → (s.record r).counter = 1 →
    (s.record r).slot = n → (s.record r).window = w →
    ((s.record r).phase = .waiting →
      exec (.waitTimeout r) s = .next (((s.retire r).post n (.window w) (.withdrawn .timedOut)).grantPass w)) ∧
    ((s.record r).phase = .lapsing →
      exec (.graceExpiry r) s = .next (((s.retire r).post n (.window w) .lapsed).followUps w true none)) ∧
    ((s.record r).phase = .recalled →
      exec (.recallLimitExpiry r) s = .next (((s.retire r).post n (.window w) .forced).followUps w true none)) ∧
    ((s.record r).phase = .held → ∃ t, exec (.leaseExpiry r) s = .next t ∧
      t.record r = { s.record r with phase := .lapsing, counter := (s.window w).grace.setWidth 16 } ∧
      SameOtherRecords r s t ∧ t.windows = s.windows ∧ t.claims = s.claims ∧
      Posted s t [(n, .window w, .lapseWarning (s.window w).grace)] ∧ SameBesideClaims s t)

/-! ### The lines -/

/-- A rise of PRES[n] makes an ABSENT slot PRESENT; a fall makes a PRESENT slot ABSENT and empties its queue and FIFOs; a
slot reset of a PRESENT slot clears its whole port; each tells another slot that is master. An ABSENT slot ignores a fall
and a slot reset (R129, R130, R137). The held levels of the presence lines are the model's reading (log entry 8). -/
def Obligations.PresenceAndSlotResetLines : Prop :=
  ∀ (s : State) (n : SlotId), s.porAsserted = false →
    ((s.slot n).state = .absent → ∃ t, exec (.presRise n) s = .next t ∧
      t.slot n = { s.slot n with state := .present } ∧ SameOtherSlots n s t ∧
      Posted s t (toMaster s (some n) (.slot n) (.slotChange .present (s.slot n).exitReason)) ∧
      t.presLines.getLsbD n.val = true ∧ (∀ m : SlotId, m ≠ n → t.presLines.getLsbD m.val = s.presLines.getLsbD m.val) ∧
      t.ports = s.ports ∧ t.pointer = s.pointer ∧ SameTables s t ∧ SameRole s t ∧ SameClock s t ∧
      t.inHand = s.inHand ∧ t.portAnswer = s.portAnswer ∧ t.porAsserted = s.porAsserted ∧ t.pending = s.pending) ∧
    ((s.slot n).state = .present → ∃ t, exec (.presFall n) s = .next t ∧
      t.slot n = { s.slot n with state := .absent, exitReason := .removed, silence := 0 } ∧ SameOtherSlots n s t ∧
      t.port n = { s.port n with commands := [], responses := [], attnEnable := false, holding := 0 } ∧
      SameOtherPorts n s t ∧ t.queue n = [] ∧
      (∀ m, m ≠ n → t.queue m = if (s.slot m).state = .absent then s.queue m
        else queueAfter (toMaster s (some n) (.slot n) (.slotChange .absent .removed)) m (s.queue m)) ∧
      t.presLines.getLsbD n.val = false ∧ (∀ m : SlotId, m ≠ n → t.presLines.getLsbD m.val = s.presLines.getLsbD m.val) ∧
      t.pointer = s.pointer ∧ SameTables s t ∧ SameRole s t ∧ SameClock s t ∧ t.inHand = s.inHand ∧
      t.portAnswer = s.portAnswer ∧ t.porAsserted = s.porAsserted ∧ t.pending = s.pending) ∧
    ((s.slot n).state = .present → ∃ t, exec (.slotReset n) s = .next t ∧
      t.slot n = { s.slot n with exitReason := .reset, silence := 0 } ∧ SameOtherSlots n s t ∧
      t.port n = SlotPort.cleared ∧ SameOtherPorts n s t ∧ t.queue n = [] ∧
      (∀ m, m ≠ n → t.queue m = if (s.slot m).state = .absent then s.queue m
        else queueAfter (toMaster s (some n) (.slot n) (.slotChange .present .reset)) m (s.queue m)) ∧
      t.pointer = s.pointer ∧ SameTables s t ∧ SameRole s t ∧ SameClock s t ∧ SameOutside s t) ∧
    ((s.slot n).state = .absent → exec (.slotReset n) s = .next s ∧ exec (.presFall n) s = .next (s.setLine n false))

/-! ### The laws that every step keeps -/

/-- Right after reset the state keeps every law that the statements below carry from step to step. -/
def Obligations.ResetKeepsEveryLaw : Prop :=
  QueuesLawful State.reset ∧ FifosLawful State.reset ∧ RoleLawful State.reset ∧ SlotsLawful State.reset ∧
  WindowsLawful State.reset ∧ ClaimsLawful State.reset ∧ QuotasLawful State.reset ∧ CountersLawful State.reset ∧
  RecordsPlaced State.reset ∧ UpgradersLawful State.reset ∧ RecallsLawful State.reset ∧ PassesSettled State.reset ∧
  BeneficiariesLawful State.reset ∧ BackplaneLawful State.reset

/-- Every step keeps the standing laws of slots, role, queues, FIFOs and backplane: one notice on a subject, nothing queued
for an ABSENT slot, at most four entries in a FIFO, a master that is ACTIVE, silence counted for ACTIVE slots alone, and
one cycle on the backplane (R111, R127, R128, R129, R144, R149, R160, R163), where the answer of a control-block cycle,
portAnswer, is the model's form (log entry 6). -/
def Obligations.StandingLawsKept : Prop :=
  ∀ (s t : State), step s = .next t →
    (QueuesLawful s → QueuesLawful t) ∧ (FifosLawful s → FifosLawful t) ∧ (RoleLawful s → RoleLawful t) ∧
    (SlotsLawful s → SlotsLawful t) ∧ (BackplaneLawful s → BackplaneLawful t)

/-- Every step keeps the law of the Window Table: definitions are in range and no two windows that are not UNDEFINED share
any address (R1, R7, R8). -/
def Obligations.WindowsNeverOverlap : Prop :=
  ∀ (s t : State), WindowsLawful s → step s = .next t → WindowsLawful t

/-- Every step keeps the laws of the Claim Table: each wait list names its window's WAITING records once each, FREE records
are zero, a slot has at most one record on a window, an EXCLUSIVE hold stands alone, and no slot has more records than its
quota (R21, R25, R26, R30, R32). -/
def Obligations.ClaimTableLawsKept : Prop :=
  ∀ (s t : State), ClaimsLawful s → step s = .next t → ClaimsLawful t ∧ (QuotasLawful s → QuotasLawful t)

/-- WAITING records exist only on OPEN windows and holds only on OPEN or DRAINING ones, every hold on a DRAINING window is
RECALLED, every record in use names an ACTIVE slot (R29), and a LAPSING or RECALLED record has time left (R22): kept by
every step from a state with the laws of the two tables. -/
def Obligations.RecordsStayPlaced : Prop :=
  ∀ (s t : State), WindowsLawful s → ClaimsLawful s → RecordsPlaced s → step s = .next t →
    RecordsPlaced t ∧ (CountersLawful s → CountersLawful t)

/-- A pending upgrader holds its window SHARED and not RECALLED (R27), and a window under recall is OPEN with only RECALLED
holds, at least one, and no upgrader (R28): kept by every step from a state with the laws above. -/
def Obligations.UpgradesAndRecallsStayLawful : Prop :=
  ∀ (s t : State), ClaimsLawful s → RecordsPlaced s → UpgradersLawful s → RecallsLawful s → step s = .next t →
    UpgradersLawful t ∧ RecallsLawful t

/-- No waiter that could be let in is left standing: on every OPEN window without recall the wait list is empty, or the
window has holds that its head cannot join; and a pending upgrader is never alone (R42, R48): kept by every step from a
state with the laws above. -/
def Obligations.NoGrantableWaiterIsLeft : Prop :=
  ∀ (s t : State), ClaimsLawful s → RecordsPlaced s → UpgradersLawful s → RecallsLawful s → PassesSettled s →
    step s = .next t → PassesSettled t

/-- A beneficiary's flag is set on the head record of a window under recall that names its slot, and on no other; a recall
that names a beneficiary has it at the head (R21, R28, R96, R100): kept by every step from a state with the laws above. -/
def Obligations.BeneficiaryStandsAtTheHead : Prop :=
  ∀ (s t : State), ClaimsLawful s → RecordsPlaced s → UpgradersLawful s → RecallsLawful s → PassesSettled s →
    BeneficiariesLawful s → step s = .next t → BeneficiariesLawful t
end

