-- ==== Sys2Proof/Laws/State.lean ====
section
/-! SUPPORT. Laws/State.lean: one lemma for each field under each update of State. -/

namespace Sys2Proof.Machine

/-! ### setWindow -/

@[simp] theorem State.window_setWindow (s : State) (i : WindowId) (x : WindowRecord) (j : WindowId) :
    (s.setWindow i x).window j = if j = i then x else s.window j := by
  simp [State.setWindow, State.window, Vector.getElem_set, Fin.ext_iff, eq_comm]

@[simp] theorem State.record_setWindow (s : State) (i : WindowId) (x : WindowRecord) (j : RecordId) :
    (s.setWindow i x).record j = s.record j := rfl

@[simp] theorem State.claim_setWindow (s : State) (i : WindowId) (x : WindowRecord) (j : WindowId) :
    (s.setWindow i x).claim j = s.claim j := rfl

@[simp] theorem State.slot_setWindow (s : State) (i : WindowId) (x : WindowRecord) (j : SlotId) :
    (s.setWindow i x).slot j = s.slot j := rfl

@[simp] theorem State.port_setWindow (s : State) (i : WindowId) (x : WindowRecord) (j : SlotId) :
    (s.setWindow i x).port j = s.port j := rfl

@[simp] theorem State.queue_setWindow (s : State) (i : WindowId) (x : WindowRecord) (j : SlotId) :
    (s.setWindow i x).queue j = s.queue j := rfl

@[simp] theorem State.records_setWindow (s : State) (i : WindowId) (x : WindowRecord) : (s.setWindow i x).records = s.records := rfl

@[simp] theorem State.claims_setWindow (s : State) (i : WindowId) (x : WindowRecord) : (s.setWindow i x).claims = s.claims := rfl

@[simp] theorem State.slots_setWindow (s : State) (i : WindowId) (x : WindowRecord) : (s.setWindow i x).slots = s.slots := rfl

@[simp] theorem State.ports_setWindow (s : State) (i : WindowId) (x : WindowRecord) : (s.setWindow i x).ports = s.ports := rfl

@[simp] theorem State.notices_setWindow (s : State) (i : WindowId) (x : WindowRecord) : (s.setWindow i x).notices = s.notices := rfl

@[simp] theorem State.master_setWindow (s : State) (i : WindowId) (x : WindowRecord) : (s.setWindow i x).master = s.master := rfl

@[simp] theorem State.eligible_setWindow (s : State) (i : WindowId) (x : WindowRecord) : (s.setWindow i x).eligible = s.eligible := rfl

@[simp] theorem State.silenceLimit_setWindow (s : State) (i : WindowId) (x : WindowRecord) : (s.setWindow i x).silenceLimit = s.silenceLimit := rfl

@[simp] theorem State.tickSelect_setWindow (s : State) (i : WindowId) (x : WindowRecord) : (s.setWindow i x).tickSelect = s.tickSelect := rfl

@[simp] theorem State.divider_setWindow (s : State) (i : WindowId) (x : WindowRecord) : (s.setWindow i x).divider = s.divider := rfl

@[simp] theorem State.claimTicksDue_setWindow (s : State) (i : WindowId) (x : WindowRecord) : (s.setWindow i x).claimTicksDue = s.claimTicksDue := rfl

@[simp] theorem State.slotTicksDue_setWindow (s : State) (i : WindowId) (x : WindowRecord) : (s.setWindow i x).slotTicksDue = s.slotTicksDue := rfl

@[simp] theorem State.pointer_setWindow (s : State) (i : WindowId) (x : WindowRecord) : (s.setWindow i x).pointer = s.pointer := rfl

@[simp] theorem State.inHand_setWindow (s : State) (i : WindowId) (x : WindowRecord) : (s.setWindow i x).inHand = s.inHand := rfl

@[simp] theorem State.portAnswer_setWindow (s : State) (i : WindowId) (x : WindowRecord) : (s.setWindow i x).portAnswer = s.portAnswer := rfl

@[simp] theorem State.presLines_setWindow (s : State) (i : WindowId) (x : WindowRecord) : (s.setWindow i x).presLines = s.presLines := rfl

@[simp] theorem State.porAsserted_setWindow (s : State) (i : WindowId) (x : WindowRecord) : (s.setWindow i x).porAsserted = s.porAsserted := rfl

@[simp] theorem State.pending_setWindow (s : State) (i : WindowId) (x : WindowRecord) : (s.setWindow i x).pending = s.pending := rfl

/-! ### setRecord -/

@[simp] theorem State.window_setRecord (s : State) (i : RecordId) (x : ClaimRecord) (j : WindowId) :
    (s.setRecord i x).window j = s.window j := rfl

@[simp] theorem State.record_setRecord (s : State) (i : RecordId) (x : ClaimRecord) (j : RecordId) :
    (s.setRecord i x).record j = if j = i then x else s.record j := by
  simp [State.setRecord, State.record, Vector.getElem_set, Fin.ext_iff, eq_comm]

@[simp] theorem State.claim_setRecord (s : State) (i : RecordId) (x : ClaimRecord) (j : WindowId) :
    (s.setRecord i x).claim j = s.claim j := rfl

@[simp] theorem State.slot_setRecord (s : State) (i : RecordId) (x : ClaimRecord) (j : SlotId) :
    (s.setRecord i x).slot j = s.slot j := rfl

@[simp] theorem State.port_setRecord (s : State) (i : RecordId) (x : ClaimRecord) (j : SlotId) :
    (s.setRecord i x).port j = s.port j := rfl

@[simp] theorem State.queue_setRecord (s : State) (i : RecordId) (x : ClaimRecord) (j : SlotId) :
    (s.setRecord i x).queue j = s.queue j := rfl

@[simp] theorem State.windows_setRecord (s : State) (i : RecordId) (x : ClaimRecord) : (s.setRecord i x).windows = s.windows := rfl

@[simp] theorem State.claims_setRecord (s : State) (i : RecordId) (x : ClaimRecord) : (s.setRecord i x).claims = s.claims := rfl

@[simp] theorem State.slots_setRecord (s : State) (i : RecordId) (x : ClaimRecord) : (s.setRecord i x).slots = s.slots := rfl

@[simp] theorem State.ports_setRecord (s : State) (i : RecordId) (x : ClaimRecord) : (s.setRecord i x).ports = s.ports := rfl

@[simp] theorem State.notices_setRecord (s : State) (i : RecordId) (x : ClaimRecord) : (s.setRecord i x).notices = s.notices := rfl

@[simp] theorem State.master_setRecord (s : State) (i : RecordId) (x : ClaimRecord) : (s.setRecord i x).master = s.master := rfl

@[simp] theorem State.eligible_setRecord (s : State) (i : RecordId) (x : ClaimRecord) : (s.setRecord i x).eligible = s.eligible := rfl

@[simp] theorem State.silenceLimit_setRecord (s : State) (i : RecordId) (x : ClaimRecord) : (s.setRecord i x).silenceLimit = s.silenceLimit := rfl

@[simp] theorem State.tickSelect_setRecord (s : State) (i : RecordId) (x : ClaimRecord) : (s.setRecord i x).tickSelect = s.tickSelect := rfl

@[simp] theorem State.divider_setRecord (s : State) (i : RecordId) (x : ClaimRecord) : (s.setRecord i x).divider = s.divider := rfl

@[simp] theorem State.claimTicksDue_setRecord (s : State) (i : RecordId) (x : ClaimRecord) : (s.setRecord i x).claimTicksDue = s.claimTicksDue := rfl

@[simp] theorem State.slotTicksDue_setRecord (s : State) (i : RecordId) (x : ClaimRecord) : (s.setRecord i x).slotTicksDue = s.slotTicksDue := rfl

@[simp] theorem State.pointer_setRecord (s : State) (i : RecordId) (x : ClaimRecord) : (s.setRecord i x).pointer = s.pointer := rfl

@[simp] theorem State.inHand_setRecord (s : State) (i : RecordId) (x : ClaimRecord) : (s.setRecord i x).inHand = s.inHand := rfl

@[simp] theorem State.portAnswer_setRecord (s : State) (i : RecordId) (x : ClaimRecord) : (s.setRecord i x).portAnswer = s.portAnswer := rfl

@[simp] theorem State.presLines_setRecord (s : State) (i : RecordId) (x : ClaimRecord) : (s.setRecord i x).presLines = s.presLines := rfl

@[simp] theorem State.porAsserted_setRecord (s : State) (i : RecordId) (x : ClaimRecord) : (s.setRecord i x).porAsserted = s.porAsserted := rfl

@[simp] theorem State.pending_setRecord (s : State) (i : RecordId) (x : ClaimRecord) : (s.setRecord i x).pending = s.pending := rfl

/-! ### setClaim -/

@[simp] theorem State.window_setClaim (s : State) (i : WindowId) (x : WindowClaims) (j : WindowId) :
    (s.setClaim i x).window j = s.window j := rfl

@[simp] theorem State.record_setClaim (s : State) (i : WindowId) (x : WindowClaims) (j : RecordId) :
    (s.setClaim i x).record j = s.record j := rfl

@[simp] theorem State.claim_setClaim (s : State) (i : WindowId) (x : WindowClaims) (j : WindowId) :
    (s.setClaim i x).claim j = if j = i then x else s.claim j := by
  simp [State.setClaim, State.claim, Vector.getElem_set, Fin.ext_iff, eq_comm]

@[simp] theorem State.slot_setClaim (s : State) (i : WindowId) (x : WindowClaims) (j : SlotId) :
    (s.setClaim i x).slot j = s.slot j := rfl

@[simp] theorem State.port_setClaim (s : State) (i : WindowId) (x : WindowClaims) (j : SlotId) :
    (s.setClaim i x).port j = s.port j := rfl

@[simp] theorem State.queue_setClaim (s : State) (i : WindowId) (x : WindowClaims) (j : SlotId) :
    (s.setClaim i x).queue j = s.queue j := rfl

@[simp] theorem State.windows_setClaim (s : State) (i : WindowId) (x : WindowClaims) : (s.setClaim i x).windows = s.windows := rfl

@[simp] theorem State.records_setClaim (s : State) (i : WindowId) (x : WindowClaims) : (s.setClaim i x).records = s.records := rfl

@[simp] theorem State.slots_setClaim (s : State) (i : WindowId) (x : WindowClaims) : (s.setClaim i x).slots = s.slots := rfl

@[simp] theorem State.ports_setClaim (s : State) (i : WindowId) (x : WindowClaims) : (s.setClaim i x).ports = s.ports := rfl

@[simp] theorem State.notices_setClaim (s : State) (i : WindowId) (x : WindowClaims) : (s.setClaim i x).notices = s.notices := rfl

@[simp] theorem State.master_setClaim (s : State) (i : WindowId) (x : WindowClaims) : (s.setClaim i x).master = s.master := rfl

@[simp] theorem State.eligible_setClaim (s : State) (i : WindowId) (x : WindowClaims) : (s.setClaim i x).eligible = s.eligible := rfl

@[simp] theorem State.silenceLimit_setClaim (s : State) (i : WindowId) (x : WindowClaims) : (s.setClaim i x).silenceLimit = s.silenceLimit := rfl

@[simp] theorem State.tickSelect_setClaim (s : State) (i : WindowId) (x : WindowClaims) : (s.setClaim i x).tickSelect = s.tickSelect := rfl

@[simp] theorem State.divider_setClaim (s : State) (i : WindowId) (x : WindowClaims) : (s.setClaim i x).divider = s.divider := rfl

@[simp] theorem State.claimTicksDue_setClaim (s : State) (i : WindowId) (x : WindowClaims) : (s.setClaim i x).claimTicksDue = s.claimTicksDue := rfl

@[simp] theorem State.slotTicksDue_setClaim (s : State) (i : WindowId) (x : WindowClaims) : (s.setClaim i x).slotTicksDue = s.slotTicksDue := rfl

@[simp] theorem State.pointer_setClaim (s : State) (i : WindowId) (x : WindowClaims) : (s.setClaim i x).pointer = s.pointer := rfl

@[simp] theorem State.inHand_setClaim (s : State) (i : WindowId) (x : WindowClaims) : (s.setClaim i x).inHand = s.inHand := rfl

@[simp] theorem State.portAnswer_setClaim (s : State) (i : WindowId) (x : WindowClaims) : (s.setClaim i x).portAnswer = s.portAnswer := rfl

@[simp] theorem State.presLines_setClaim (s : State) (i : WindowId) (x : WindowClaims) : (s.setClaim i x).presLines = s.presLines := rfl

@[simp] theorem State.porAsserted_setClaim (s : State) (i : WindowId) (x : WindowClaims) : (s.setClaim i x).porAsserted = s.porAsserted := rfl

@[simp] theorem State.pending_setClaim (s : State) (i : WindowId) (x : WindowClaims) : (s.setClaim i x).pending = s.pending := rfl

/-! ### setSlot -/

@[simp] theorem State.window_setSlot (s : State) (i : SlotId) (x : SlotRecord) (j : WindowId) :
    (s.setSlot i x).window j = s.window j := rfl

@[simp] theorem State.record_setSlot (s : State) (i : SlotId) (x : SlotRecord) (j : RecordId) :
    (s.setSlot i x).record j = s.record j := rfl

@[simp] theorem State.claim_setSlot (s : State) (i : SlotId) (x : SlotRecord) (j : WindowId) :
    (s.setSlot i x).claim j = s.claim j := rfl

@[simp] theorem State.slot_setSlot (s : State) (i : SlotId) (x : SlotRecord) (j : SlotId) :
    (s.setSlot i x).slot j = if j = i then x else s.slot j := by
  simp [State.setSlot, State.slot, Vector.getElem_set, Fin.ext_iff, eq_comm]

@[simp] theorem State.port_setSlot (s : State) (i : SlotId) (x : SlotRecord) (j : SlotId) :
    (s.setSlot i x).port j = s.port j := rfl

@[simp] theorem State.queue_setSlot (s : State) (i : SlotId) (x : SlotRecord) (j : SlotId) :
    (s.setSlot i x).queue j = s.queue j := rfl

@[simp] theorem State.windows_setSlot (s : State) (i : SlotId) (x : SlotRecord) : (s.setSlot i x).windows = s.windows := rfl

@[simp] theorem State.records_setSlot (s : State) (i : SlotId) (x : SlotRecord) : (s.setSlot i x).records = s.records := rfl

@[simp] theorem State.claims_setSlot (s : State) (i : SlotId) (x : SlotRecord) : (s.setSlot i x).claims = s.claims := rfl

@[simp] theorem State.ports_setSlot (s : State) (i : SlotId) (x : SlotRecord) : (s.setSlot i x).ports = s.ports := rfl

@[simp] theorem State.notices_setSlot (s : State) (i : SlotId) (x : SlotRecord) : (s.setSlot i x).notices = s.notices := rfl

@[simp] theorem State.master_setSlot (s : State) (i : SlotId) (x : SlotRecord) : (s.setSlot i x).master = s.master := rfl

@[simp] theorem State.eligible_setSlot (s : State) (i : SlotId) (x : SlotRecord) : (s.setSlot i x).eligible = s.eligible := rfl

@[simp] theorem State.silenceLimit_setSlot (s : State) (i : SlotId) (x : SlotRecord) : (s.setSlot i x).silenceLimit = s.silenceLimit := rfl

@[simp] theorem State.tickSelect_setSlot (s : State) (i : SlotId) (x : SlotRecord) : (s.setSlot i x).tickSelect = s.tickSelect := rfl

@[simp] theorem State.divider_setSlot (s : State) (i : SlotId) (x : SlotRecord) : (s.setSlot i x).divider = s.divider := rfl

@[simp] theorem State.claimTicksDue_setSlot (s : State) (i : SlotId) (x : SlotRecord) : (s.setSlot i x).claimTicksDue = s.claimTicksDue := rfl

@[simp] theorem State.slotTicksDue_setSlot (s : State) (i : SlotId) (x : SlotRecord) : (s.setSlot i x).slotTicksDue = s.slotTicksDue := rfl

@[simp] theorem State.pointer_setSlot (s : State) (i : SlotId) (x : SlotRecord) : (s.setSlot i x).pointer = s.pointer := rfl

@[simp] theorem State.inHand_setSlot (s : State) (i : SlotId) (x : SlotRecord) : (s.setSlot i x).inHand = s.inHand := rfl

@[simp] theorem State.portAnswer_setSlot (s : State) (i : SlotId) (x : SlotRecord) : (s.setSlot i x).portAnswer = s.portAnswer := rfl

@[simp] theorem State.presLines_setSlot (s : State) (i : SlotId) (x : SlotRecord) : (s.setSlot i x).presLines = s.presLines := rfl

@[simp] theorem State.porAsserted_setSlot (s : State) (i : SlotId) (x : SlotRecord) : (s.setSlot i x).porAsserted = s.porAsserted := rfl

@[simp] theorem State.pending_setSlot (s : State) (i : SlotId) (x : SlotRecord) : (s.setSlot i x).pending = s.pending := rfl

/-! ### setPort -/

@[simp] theorem State.window_setPort (s : State) (i : SlotId) (x : SlotPort) (j : WindowId) :
    (s.setPort i x).window j = s.window j := rfl

@[simp] theorem State.record_setPort (s : State) (i : SlotId) (x : SlotPort) (j : RecordId) :
    (s.setPort i x).record j = s.record j := rfl

@[simp] theorem State.claim_setPort (s : State) (i : SlotId) (x : SlotPort) (j : WindowId) :
    (s.setPort i x).claim j = s.claim j := rfl

@[simp] theorem State.slot_setPort (s : State) (i : SlotId) (x : SlotPort) (j : SlotId) :
    (s.setPort i x).slot j = s.slot j := rfl

@[simp] theorem State.port_setPort (s : State) (i : SlotId) (x : SlotPort) (j : SlotId) :
    (s.setPort i x).port j = if j = i then x else s.port j := by
  simp [State.setPort, State.port, Vector.getElem_set, Fin.ext_iff, eq_comm]

@[simp] theorem State.queue_setPort (s : State) (i : SlotId) (x : SlotPort) (j : SlotId) :
    (s.setPort i x).queue j = s.queue j := rfl

@[simp] theorem State.windows_setPort (s : State) (i : SlotId) (x : SlotPort) : (s.setPort i x).windows = s.windows := rfl

@[simp] theorem State.records_setPort (s : State) (i : SlotId) (x : SlotPort) : (s.setPort i x).records = s.records := rfl

@[simp] theorem State.claims_setPort (s : State) (i : SlotId) (x : SlotPort) : (s.setPort i x).claims = s.claims := rfl

@[simp] theorem State.slots_setPort (s : State) (i : SlotId) (x : SlotPort) : (s.setPort i x).slots = s.slots := rfl

@[simp] theorem State.notices_setPort (s : State) (i : SlotId) (x : SlotPort) : (s.setPort i x).notices = s.notices := rfl

@[simp] theorem State.master_setPort (s : State) (i : SlotId) (x : SlotPort) : (s.setPort i x).master = s.master := rfl

@[simp] theorem State.eligible_setPort (s : State) (i : SlotId) (x : SlotPort) : (s.setPort i x).eligible = s.eligible := rfl

@[simp] theorem State.silenceLimit_setPort (s : State) (i : SlotId) (x : SlotPort) : (s.setPort i x).silenceLimit = s.silenceLimit := rfl

@[simp] theorem State.tickSelect_setPort (s : State) (i : SlotId) (x : SlotPort) : (s.setPort i x).tickSelect = s.tickSelect := rfl

@[simp] theorem State.divider_setPort (s : State) (i : SlotId) (x : SlotPort) : (s.setPort i x).divider = s.divider := rfl

@[simp] theorem State.claimTicksDue_setPort (s : State) (i : SlotId) (x : SlotPort) : (s.setPort i x).claimTicksDue = s.claimTicksDue := rfl

@[simp] theorem State.slotTicksDue_setPort (s : State) (i : SlotId) (x : SlotPort) : (s.setPort i x).slotTicksDue = s.slotTicksDue := rfl

@[simp] theorem State.pointer_setPort (s : State) (i : SlotId) (x : SlotPort) : (s.setPort i x).pointer = s.pointer := rfl

@[simp] theorem State.inHand_setPort (s : State) (i : SlotId) (x : SlotPort) : (s.setPort i x).inHand = s.inHand := rfl

@[simp] theorem State.portAnswer_setPort (s : State) (i : SlotId) (x : SlotPort) : (s.setPort i x).portAnswer = s.portAnswer := rfl

@[simp] theorem State.presLines_setPort (s : State) (i : SlotId) (x : SlotPort) : (s.setPort i x).presLines = s.presLines := rfl

@[simp] theorem State.porAsserted_setPort (s : State) (i : SlotId) (x : SlotPort) : (s.setPort i x).porAsserted = s.porAsserted := rfl

@[simp] theorem State.pending_setPort (s : State) (i : SlotId) (x : SlotPort) : (s.setPort i x).pending = s.pending := rfl

/-! ### setQueue -/

@[simp] theorem State.window_setQueue (s : State) (i : SlotId) (x : List Notice) (j : WindowId) :
    (s.setQueue i x).window j = s.window j := rfl

@[simp] theorem State.record_setQueue (s : State) (i : SlotId) (x : List Notice) (j : RecordId) :
    (s.setQueue i x).record j = s.record j := rfl

@[simp] theorem State.claim_setQueue (s : State) (i : SlotId) (x : List Notice) (j : WindowId) :
    (s.setQueue i x).claim j = s.claim j := rfl

@[simp] theorem State.slot_setQueue (s : State) (i : SlotId) (x : List Notice) (j : SlotId) :
    (s.setQueue i x).slot j = s.slot j := rfl

@[simp] theorem State.port_setQueue (s : State) (i : SlotId) (x : List Notice) (j : SlotId) :
    (s.setQueue i x).port j = s.port j := rfl

@[simp] theorem State.queue_setQueue (s : State) (i : SlotId) (x : List Notice) (j : SlotId) :
    (s.setQueue i x).queue j = if j = i then x else s.queue j := by
  simp [State.setQueue, State.queue, Vector.getElem_set, Fin.ext_iff, eq_comm]

@[simp] theorem State.windows_setQueue (s : State) (i : SlotId) (x : List Notice) : (s.setQueue i x).windows = s.windows := rfl

@[simp] theorem State.records_setQueue (s : State) (i : SlotId) (x : List Notice) : (s.setQueue i x).records = s.records := rfl

@[simp] theorem State.claims_setQueue (s : State) (i : SlotId) (x : List Notice) : (s.setQueue i x).claims = s.claims := rfl

@[simp] theorem State.slots_setQueue (s : State) (i : SlotId) (x : List Notice) : (s.setQueue i x).slots = s.slots := rfl

@[simp] theorem State.ports_setQueue (s : State) (i : SlotId) (x : List Notice) : (s.setQueue i x).ports = s.ports := rfl

@[simp] theorem State.master_setQueue (s : State) (i : SlotId) (x : List Notice) : (s.setQueue i x).master = s.master := rfl

@[simp] theorem State.eligible_setQueue (s : State) (i : SlotId) (x : List Notice) : (s.setQueue i x).eligible = s.eligible := rfl

@[simp] theorem State.silenceLimit_setQueue (s : State) (i : SlotId) (x : List Notice) : (s.setQueue i x).silenceLimit = s.silenceLimit := rfl

@[simp] theorem State.tickSelect_setQueue (s : State) (i : SlotId) (x : List Notice) : (s.setQueue i x).tickSelect = s.tickSelect := rfl

@[simp] theorem State.divider_setQueue (s : State) (i : SlotId) (x : List Notice) : (s.setQueue i x).divider = s.divider := rfl

@[simp] theorem State.claimTicksDue_setQueue (s : State) (i : SlotId) (x : List Notice) : (s.setQueue i x).claimTicksDue = s.claimTicksDue := rfl

@[simp] theorem State.slotTicksDue_setQueue (s : State) (i : SlotId) (x : List Notice) : (s.setQueue i x).slotTicksDue = s.slotTicksDue := rfl

@[simp] theorem State.pointer_setQueue (s : State) (i : SlotId) (x : List Notice) : (s.setQueue i x).pointer = s.pointer := rfl

@[simp] theorem State.inHand_setQueue (s : State) (i : SlotId) (x : List Notice) : (s.setQueue i x).inHand = s.inHand := rfl

@[simp] theorem State.portAnswer_setQueue (s : State) (i : SlotId) (x : List Notice) : (s.setQueue i x).portAnswer = s.portAnswer := rfl

@[simp] theorem State.presLines_setQueue (s : State) (i : SlotId) (x : List Notice) : (s.setQueue i x).presLines = s.presLines := rfl

@[simp] theorem State.porAsserted_setQueue (s : State) (i : SlotId) (x : List Notice) : (s.setQueue i x).porAsserted = s.porAsserted := rfl

@[simp] theorem State.pending_setQueue (s : State) (i : SlotId) (x : List Notice) : (s.setQueue i x).pending = s.pending := rfl

/-! ### setMaster -/

@[simp] theorem State.window_setMaster (s : State) (m : Option SlotId) (j : WindowId) : (s.setMaster m).window j = s.window j := rfl

@[simp] theorem State.record_setMaster (s : State) (m : Option SlotId) (j : RecordId) : (s.setMaster m).record j = s.record j := rfl

@[simp] theorem State.claim_setMaster (s : State) (m : Option SlotId) (j : WindowId) : (s.setMaster m).claim j = s.claim j := rfl

@[simp] theorem State.slot_setMaster (s : State) (m : Option SlotId) (j : SlotId) : (s.setMaster m).slot j = s.slot j := rfl

@[simp] theorem State.port_setMaster (s : State) (m : Option SlotId) (j : SlotId) : (s.setMaster m).port j = s.port j := rfl

@[simp] theorem State.queue_setMaster (s : State) (m : Option SlotId) (j : SlotId) : (s.setMaster m).queue j = s.queue j := rfl

@[simp] theorem State.windows_setMaster (s : State) (m : Option SlotId) : (s.setMaster m).windows = s.windows := rfl

@[simp] theorem State.records_setMaster (s : State) (m : Option SlotId) : (s.setMaster m).records = s.records := rfl

@[simp] theorem State.claims_setMaster (s : State) (m : Option SlotId) : (s.setMaster m).claims = s.claims := rfl

@[simp] theorem State.slots_setMaster (s : State) (m : Option SlotId) : (s.setMaster m).slots = s.slots := rfl

@[simp] theorem State.ports_setMaster (s : State) (m : Option SlotId) : (s.setMaster m).ports = s.ports := rfl

@[simp] theorem State.notices_setMaster (s : State) (m : Option SlotId) : (s.setMaster m).notices = s.notices := rfl

@[simp] theorem State.master_setMaster (s : State) (m : Option SlotId) : (s.setMaster m).master = m := rfl

@[simp] theorem State.eligible_setMaster (s : State) (m : Option SlotId) : (s.setMaster m).eligible = s.eligible := rfl

@[simp] theorem State.silenceLimit_setMaster (s : State) (m : Option SlotId) : (s.setMaster m).silenceLimit = s.silenceLimit := rfl

@[simp] theorem State.tickSelect_setMaster (s : State) (m : Option SlotId) : (s.setMaster m).tickSelect = s.tickSelect := rfl

@[simp] theorem State.divider_setMaster (s : State) (m : Option SlotId) : (s.setMaster m).divider = s.divider := rfl

@[simp] theorem State.claimTicksDue_setMaster (s : State) (m : Option SlotId) : (s.setMaster m).claimTicksDue = s.claimTicksDue := rfl

@[simp] theorem State.slotTicksDue_setMaster (s : State) (m : Option SlotId) : (s.setMaster m).slotTicksDue = s.slotTicksDue := rfl

@[simp] theorem State.pointer_setMaster (s : State) (m : Option SlotId) : (s.setMaster m).pointer = s.pointer := rfl

@[simp] theorem State.inHand_setMaster (s : State) (m : Option SlotId) : (s.setMaster m).inHand = s.inHand := rfl

@[simp] theorem State.portAnswer_setMaster (s : State) (m : Option SlotId) : (s.setMaster m).portAnswer = s.portAnswer := rfl

@[simp] theorem State.presLines_setMaster (s : State) (m : Option SlotId) : (s.setMaster m).presLines = s.presLines := rfl

@[simp] theorem State.porAsserted_setMaster (s : State) (m : Option SlotId) : (s.setMaster m).porAsserted = s.porAsserted := rfl

@[simp] theorem State.pending_setMaster (s : State) (m : Option SlotId) : (s.setMaster m).pending = s.pending := rfl

/-- Two states whose reads `window` agree have the same table. -/
theorem State.windows_ext (s t : State) (h : ∀ i, t.window i = s.window i) : t.windows = s.windows := by
  apply Vector.ext
  intro i hi
  exact h ⟨i, hi⟩

/-- Two states whose reads `record` agree have the same table. -/
theorem State.records_ext (s t : State) (h : ∀ i, t.record i = s.record i) : t.records = s.records := by
  apply Vector.ext
  intro i hi
  exact h ⟨i, hi⟩

/-- Two states whose reads `claim` agree have the same table. -/
theorem State.claims_ext (s t : State) (h : ∀ i, t.claim i = s.claim i) : t.claims = s.claims := by
  apply Vector.ext
  intro i hi
  exact h ⟨i, hi⟩

/-- Two states whose reads `slot` agree have the same table. -/
theorem State.slots_ext (s t : State) (h : ∀ i, t.slot i = s.slot i) : t.slots = s.slots := by
  apply Vector.ext
  intro i hi
  exact h ⟨i, hi⟩

/-- Two states whose reads `port` agree have the same table. -/
theorem State.ports_ext (s t : State) (h : ∀ i, t.port i = s.port i) : t.ports = s.ports := by
  apply Vector.ext
  intro i hi
  exact h ⟨i, hi⟩

/-- Two states whose reads `queue` agree have the same table. -/
theorem State.notices_ext (s t : State) (h : ∀ i, t.queue i = s.queue i) : t.notices = s.notices := by
  apply Vector.ext
  intro i hi
  exact h ⟨i, hi⟩

end Sys2Proof.Machine
end

