-- ==== Sys2Proof/Laws/Frames.lean ====
section
/-! SUPPORT. Laws/Frames.lean: what the shared operations leave alone. The Claim Table's procedures change the windows,
the claim records, the claim states and the notice queues, and nothing beside them. -/

namespace Sys2Proof.Machine

theorem SameBesideClaims.refl (s : State) : SameBesideClaims s s :=
  ⟨rfl, rfl, rfl, ⟨rfl, rfl, rfl⟩, ⟨rfl, rfl, rfl, rfl⟩, ⟨rfl, rfl, rfl, rfl, rfl⟩⟩

theorem SameBesideClaims.trans {s t u : State} (h : SameBesideClaims s t) (k : SameBesideClaims t u) :
    SameBesideClaims s u where
  slots := k.slots.trans h.slots
  ports := k.ports.trans h.ports
  pointer := k.pointer.trans h.pointer
  role := ⟨k.role.master.trans h.role.master, k.role.eligible.trans h.role.eligible,
    k.role.silenceLimit.trans h.role.silenceLimit⟩
  clock := ⟨k.clock.tickSelect.trans h.clock.tickSelect, k.clock.divider.trans h.clock.divider,
    k.clock.claimTicksDue.trans h.clock.claimTicksDue, k.clock.slotTicksDue.trans h.clock.slotTicksDue⟩
  outside := ⟨k.outside.inHand.trans h.outside.inHand, k.outside.portAnswer.trans h.outside.portAnswer,
    k.outside.presLines.trans h.outside.presLines, k.outside.porAsserted.trans h.outside.porAsserted,
    k.outside.pending.trans h.outside.pending⟩

theorem SameBesideClaims.slot {s t : State} (h : SameBesideClaims s t) (n : SlotId) : t.slot n = s.slot n := by
  simp only [State.slot, h.slots]

theorem SameBesideClaims.port {s t : State} (h : SameBesideClaims s t) (n : SlotId) : t.port n = s.port n := by
  simp only [State.port, h.ports]

/-- A fold of operations that each leave everything beside the claims alone does so too. -/
theorem SameBesideClaims.foldl {α : Type} {f : State → α → State} (h : ∀ s a, SameBesideClaims s (f s a)) :
    ∀ (l : List α) (s : State), SameBesideClaims s (l.foldl f s)
  | [], s => .refl s
  | a :: l, s => (h s a).trans (SameBesideClaims.foldl h l (f s a))

theorem setWindow_beside (s : State) (w : WindowId) (x : WindowRecord) : SameBesideClaims s (s.setWindow w x) :=
  ⟨rfl, rfl, rfl, ⟨rfl, rfl, rfl⟩, ⟨rfl, rfl, rfl, rfl⟩, ⟨rfl, rfl, rfl, rfl, rfl⟩⟩

theorem setRecord_beside (s : State) (r : RecordId) (x : ClaimRecord) : SameBesideClaims s (s.setRecord r x) :=
  ⟨rfl, rfl, rfl, ⟨rfl, rfl, rfl⟩, ⟨rfl, rfl, rfl, rfl⟩, ⟨rfl, rfl, rfl, rfl, rfl⟩⟩

theorem setClaim_beside (s : State) (w : WindowId) (x : WindowClaims) : SameBesideClaims s (s.setClaim w x) :=
  ⟨rfl, rfl, rfl, ⟨rfl, rfl, rfl⟩, ⟨rfl, rfl, rfl, rfl⟩, ⟨rfl, rfl, rfl, rfl, rfl⟩⟩

theorem setQueue_beside (s : State) (n : SlotId) (x : List Notice) : SameBesideClaims s (s.setQueue n x) :=
  ⟨rfl, rfl, rfl, ⟨rfl, rfl, rfl⟩, ⟨rfl, rfl, rfl, rfl⟩, ⟨rfl, rfl, rfl, rfl, rfl⟩⟩

theorem post_beside (s : State) (n : SlotId) (x : Subject) (b : NoticeBody) : SameBesideClaims s (s.post n x b) := by
  unfold State.post
  split
  · exact .refl s
  · exact setQueue_beside ..

theorem postToMaster_beside (s : State) (m : Option SlotId) (x : Subject) (b : NoticeBody) :
    SameBesideClaims s (s.postToMaster m x b) := by
  unfold State.postToMaster
  split
  · exact .refl s
  · split
    · exact .refl s
    · exact post_beside ..

theorem retire_beside (s : State) (r : RecordId) : SameBesideClaims s (s.retire r) :=
  (setClaim_beside ..).trans (setRecord_beside ..)

theorem grant_beside (s : State) (r : RecordId) : SameBesideClaims s (s.grant r) :=
  ((setClaim_beside ..).trans (setRecord_beside ..)).trans (post_beside ..)

theorem grantBatch_beside : ∀ (l : List RecordId) (s : State), SameBesideClaims s (s.grantBatch l)
  | [], s => .refl s
  | r :: l, s => by
    unfold State.grantBatch
    split
    · exact (grant_beside s r).trans (grantBatch_beside l _)
    · exact .refl s

theorem completeUpgrade_beside (s : State) (w : WindowId) (r : RecordId) :
    SameBesideClaims s (s.completeUpgrade w r) :=
  ((setRecord_beside ..).trans (setClaim_beside ..)).trans (post_beside ..)

theorem grantSteps_beside (s : State) (w : WindowId) : SameBesideClaims s (s.grantSteps w) := by
  unfold State.grantSteps
  repeat' split
  all_goals first
    | exact .refl s
    | exact completeUpgrade_beside ..
    | exact grant_beside ..
    | exact grantBatch_beside ..

/-- The grant pass changes claim records, claim states and notice queues alone (and no window, `grantPass_windows`). -/
theorem grantPass_beside (s : State) (w : WindowId) : SameBesideClaims s (s.grantPass w) := by
  unfold State.grantPass
  split
  · exact grantSteps_beside ..
  · exact .refl s

theorem lastHoldRetired_beside (s : State) (w : WindowId) (x : Option SlotId) :
    SameBesideClaims s (s.lastHoldRetired w x) := by
  unfold State.lastHoldRetired
  split
  · exact ((setClaim_beside ..).trans (setWindow_beside ..)).trans (postToMaster_beside ..)
  · exact setClaim_beside ..

theorem followUps_beside (s : State) (w : WindowId) (h : Bool) (x : Option SlotId) :
    SameBesideClaims s (s.followUps w h x) := by
  unfold State.followUps
  split
  · exact (lastHoldRetired_beside ..).trans (grantPass_beside ..)
  · exact grantPass_beside ..

theorem retireAlone_beside (s : State) (r : RecordId) (x : Option SlotId) : SameBesideClaims s (s.retireAlone r x) :=
  (retire_beside ..).trans (followUps_beside ..)

theorem exitWindow_beside (n : SlotId) (s : State) (w : WindowId) : SameBesideClaims s (s.exitWindow n w) := by
  unfold State.exitWindow
  split
  · exact .refl s
  · exact retireAlone_beside ..

/-- The records step of exit processing leaves slots, ports, role, clock and outside as they are (R135 step 1). -/
theorem exitRecords_beside (s : State) (n : SlotId) : SameBesideClaims s (s.exitRecords n) :=
  SameBesideClaims.foldl (exitWindow_beside n) _ _

theorem recallHold_beside (w : WindowId) (u : Option SlotId) (s : State) (r : RecordId) :
    SameBesideClaims s (State.recallHold w u s r) := by
  unfold State.recallHold
  split
  · exact .refl s
  · exact (setRecord_beside ..).trans (post_beside ..)

theorem recallHolds_beside (s : State) (w : WindowId) (u : Option SlotId) :
    SameBesideClaims s (s.recallHolds w u) :=
  SameBesideClaims.foldl (recallHold_beside w u) _ _

theorem withdrawForClose_beside (w : WindowId) (s : State) (r : RecordId) :
    SameBesideClaims s (State.withdrawForClose w s r) :=
  (retire_beside ..).trans (post_beside ..)

theorem closeOpen_beside (s : State) (w : WindowId) : SameBesideClaims s (s.closeOpen w) := by
  have h1 := SameBesideClaims.foldl (withdrawForClose_beside w) (s.claim w).waitList s
  unfold State.closeOpen
  extract_lets u s1 src s2
  have h2 : SameBesideClaims s s2 := h1.trans (setClaim_beside ..)
  split
  · exact (h2.trans (setWindow_beside ..)).trans (postToMaster_beside ..)
  · exact ((h2.trans (recallHolds_beside ..)).trans (setClaim_beside ..)).trans (setWindow_beside ..)

theorem placeBeneficiary_beside (s : State) (w : WindowId) (b : SlotId) :
    SameBesideClaims s (s.placeBeneficiary w b).1 := by
  unfold State.placeBeneficiary
  split
  · exact (setRecord_beside ..).trans (setClaim_beside ..)
  · split
    · exact .refl s
    · exact (setRecord_beside ..).trans (setClaim_beside ..)

theorem placeGiven_beside (s : State) (w : WindowId) (b : Option SlotId) : SameBesideClaims s (s.placeGiven w b).1 := by
  cases b with
  | none => exact .refl s
  | some b => exact placeBeneficiary_beside s w b

theorem expire_beside (s : State) (r : RecordId) : SameBesideClaims s (s.expire r) := by
  unfold State.expire
  extract_lets c
  split
  · exact .refl s
  · exact (retire_beside ..).trans (post_beside ..)
  · exact (setRecord_beside ..).trans (post_beside ..)
  · exact (retire_beside ..).trans (post_beside ..)
  · exact (retire_beside ..).trans (post_beside ..)

theorem countWindow_beside (s : State) (w : WindowId) : SameBesideClaims s (s.countWindow w) :=
  ⟨rfl, rfl, rfl, ⟨rfl, rfl, rfl⟩, ⟨rfl, rfl, rfl, rfl⟩, ⟨rfl, rfl, rfl, rfl, rfl⟩⟩

theorem tickWindow_beside (s : State) (w : WindowId) : SameBesideClaims s (s.tickWindow w) := by
  unfold State.tickWindow
  extract_lets due s2
  have h : SameBesideClaims s s2 := (countWindow_beside s w).trans (SameBesideClaims.foldl expire_beside _ _)
  split
  · exact h.trans (followUps_beside ..)
  · exact h

/-- The tick at the Claim Table touches no slot, port, role or clock (R82). -/
theorem tickClaims_beside (s : State) : SameBesideClaims s s.tickClaims := SameBesideClaims.foldl tickWindow_beside _ _

end Sys2Proof.Machine
end

