-- ==== Sys2Proof/Laws/Ops.lean ====
section
/-! SUPPORT. Laws/Ops.lean: for each shared operation, what it can do, said once: searches of the Claim Table, posting,
the answer to a checked command, the take, and the pieces of a step. -/

namespace Sys2Proof.Machine

/-! ### Searches of the Claim Table -/

theorem mem_allRecords (r : RecordId) : r ∈ allRecords := List.mem_finRange r

theorem mem_allWindows (w : WindowId) : w ∈ allWindows := List.mem_finRange w

theorem mem_allSlots (n : SlotId) : n ∈ allSlots := List.mem_finRange n

/-- Record `r` is a hold on `w` exactly when its phase is a hold's and it names `w` (R26). -/
theorem isHoldOn_iff {s : State} {w : WindowId} {r : RecordId} :
    s.isHoldOn w r = true ↔ (s.record r).phase.isHold = true ∧ (s.record r).window = w := by
  simp [State.isHoldOn]

/-- The holder set is the set of the holds on the window (R26). -/
@[simp] theorem mem_holders {s : State} {w : WindowId} {r : RecordId} :
    r ∈ s.holders w ↔ s.isHoldOn w r = true := by
  simp [State.holders, mem_allRecords]

/-- A window without holders has no hold. -/
theorem holders_eq_nil {s : State} {w : WindowId} : s.holders w = [] ↔ ∀ r, s.isHoldOn w r = false := by
  simp [State.holders, List.filter_eq_nil_iff, mem_allRecords]

/-- The hold that `holdOf` finds is the slot's, on that window. -/
theorem holdOf_some {s : State} {n : SlotId} {w : WindowId} {r : RecordId} (h : s.holdOf n w = some r) :
    (s.record r).phase.isHold = true ∧ (s.record r).window = w ∧ (s.record r).slot = n := by
  have := List.find?_some h
  simpa [isHoldOn_iff, and_assoc] using this

/-- `holdOf` finds no hold exactly when the slot has none on the window. -/
theorem holdOf_none {s : State} {n : SlotId} {w : WindowId} :
    s.holdOf n w = none ↔ ∀ r, s.isHoldOn w r = true → (s.record r).slot ≠ n := by
  simp [State.holdOf, List.find?_eq_none, mem_allRecords]

/-- The record that `waitingOf` finds is the slot's WAITING record on that window. -/
theorem waitingOf_some {s : State} {n : SlotId} {w : WindowId} {r : RecordId} (h : s.waitingOf n w = some r) :
    (s.record r).phase = .waiting ∧ (s.record r).slot = n ∧ (s.record r).window = w := by
  have := List.find?_some h
  simpa [State.isWaitingOf, and_assoc] using this

theorem waitingOf_none {s : State} {n : SlotId} {w : WindowId} :
    s.waitingOf n w = none ↔ ∀ r, s.isWaitingOf n w r = false := by
  simp [State.waitingOf, List.find?_eq_none, mem_allRecords]

/-- The record that `recordOf` finds is in use, the slot's, on that window (R30). -/
theorem recordOf_some {s : State} {n : SlotId} {w : WindowId} {r : RecordId} (h : s.recordOf n w = some r) :
    (s.record r).phase ≠ .free ∧ (s.record r).slot = n ∧ (s.record r).window = w := by
  have := List.find?_some h
  simpa [and_assoc] using this

/-- The record taken from the pool is FREE (R31). -/
theorem lowestFree_some {s : State} {r : RecordId} (h : s.lowestFree = some r) : (s.record r).phase = .free := by
  simpa using List.find?_some h

/-- The pool is empty exactly when no record is FREE (R31). -/
theorem lowestFree_none {s : State} : s.lowestFree = none ↔ ∀ r, (s.record r).phase ≠ .free := by
  simp [State.lowestFree, List.find?_eq_none, mem_allRecords]

/-- Every hold is SHARED, hold by hold. -/
theorem allShared_iff {s : State} {w : WindowId} :
    s.allShared w = true ↔ ∀ r, s.isHoldOn w r = true → (s.record r).mode = .shared := by
  simp [State.allShared]

/-- The searches read the claim records alone. -/
theorem holders_congr {s t : State} (h : ∀ r, t.record r = s.record r) (w : WindowId) : t.holders w = s.holders w := by
  unfold State.holders
  congr 1
  funext r
  simp [State.isHoldOn, h]

theorem holdOf_congr {s t : State} (h : ∀ r, t.record r = s.record r) (n : SlotId) (w : WindowId) :
    t.holdOf n w = s.holdOf n w := by
  simp [State.holdOf, State.isHoldOn, h]

theorem waitingOf_congr {s t : State} (h : ∀ r, t.record r = s.record r) (n : SlotId) (w : WindowId) :
    t.waitingOf n w = s.waitingOf n w := by
  simp only [State.waitingOf]
  congr 1
  funext r
  simp [State.isWaitingOf, h]

theorem recordOf_congr {s t : State} (h : ∀ r, t.record r = s.record r) (n : SlotId) (w : WindowId) :
    t.recordOf n w = s.recordOf n w := by
  simp [State.recordOf, h]

theorem lowestFree_congr {s t : State} (h : ∀ r, t.record r = s.record r) : t.lowestFree = s.lowestFree := by
  simp [State.lowestFree, h]

theorem inUse_congr {s t : State} (h : ∀ r, t.record r = s.record r) (n : SlotId) : t.inUse n = s.inUse n := by
  simp [State.inUse, h]

/-! ### Posting (R148, R149) -/

/-- A post reaches the addressed queue alone, and only if its slot is not ABSENT. -/
theorem queue_post (s : State) (n : SlotId) (x : Subject) (b : NoticeBody) (m : SlotId) :
    (s.post n x b).queue m =
      if m = n ∧ (s.slot n).state ≠ .absent then enqueueNotice x b (s.queue n) else s.queue m := by
  unfold State.post
  by_cases h : (s.slot n).state = .absent <;> by_cases k : m = n <;> simp [h, k]

@[simp] theorem window_post (s : State) (n : SlotId) (x : Subject) (b : NoticeBody) (w : WindowId) :
    (s.post n x b).window w = s.window w := by
  unfold State.post; split <;> simp

@[simp] theorem record_post (s : State) (n : SlotId) (x : Subject) (b : NoticeBody) (r : RecordId) :
    (s.post n x b).record r = s.record r := by
  unfold State.post; split <;> simp

@[simp] theorem claim_post (s : State) (n : SlotId) (x : Subject) (b : NoticeBody) (w : WindowId) :
    (s.post n x b).claim w = s.claim w := by
  unfold State.post; split <;> simp

@[simp] theorem slot_post (s : State) (n : SlotId) (x : Subject) (b : NoticeBody) (m : SlotId) :
    (s.post n x b).slot m = s.slot m := (post_beside s n x b).slot m

@[simp] theorem port_post (s : State) (n : SlotId) (x : Subject) (b : NoticeBody) (m : SlotId) :
    (s.post n x b).port m = s.port m := (post_beside s n x b).port m

/-- A post leaves the Window Table and the Claim Table as they are. -/
theorem post_tables (s : State) (n : SlotId) (x : Subject) (b : NoticeBody) : SameTables s (s.post n x b) := by
  unfold State.post; split <;> exact ⟨rfl, rfl, rfl⟩

/-- A post to the master is a post to that slot, or nothing. -/
theorem postToMaster_cases (s : State) (except : Option SlotId) (x : Subject) (b : NoticeBody) :
    (s.postToMaster except x b = s ∧ toMaster s except x b = []) ∨
      ∃ m, s.master = some m ∧ except ≠ some m ∧ s.postToMaster except x b = s.post m x b ∧
        toMaster s except x b = [(m, x, b)] := by
  unfold State.postToMaster toMaster
  cases h : s.master with
  | none => exact .inl ⟨rfl, rfl⟩
  | some m =>
    by_cases k : except = some m
    · exact .inl (by simp [k])
    · exact .inr ⟨m, rfl, k, by simp [k], by simp [k]⟩

/-- Posting keeps the subjects of a queue distinct (R149). -/
theorem enqueueNotice_subjects (x : Subject) (b : NoticeBody) (q : List Notice) :
    (enqueueNotice x b q).map Notice.subject =
      if x ∈ q.map Notice.subject then q.map Notice.subject else q.map Notice.subject ++ [x] := by
  induction q with
  | nil => simp [enqueueNotice]
  | cons k q ih =>
    by_cases h : k.subject = x
    · simp [enqueueNotice, h]
    · have h' : ¬x = k.subject := fun e => h e.symm
      simp only [enqueueNotice, h, if_false, List.map_cons, ih, List.mem_cons, h', false_or]
      split <;> simp

/-! ### The Window Table under the Claim Table's procedures -/

theorem retire_windows (s : State) (r : RecordId) : (s.retire r).windows = s.windows := rfl

theorem post_windows (s : State) (n : SlotId) (x : Subject) (b : NoticeBody) : (s.post n x b).windows = s.windows :=
  (post_tables s n x b).windows

theorem grant_windows (s : State) (r : RecordId) : (s.grant r).windows = s.windows := by
  unfold State.grant
  exact post_windows ..

theorem grantBatch_windows : ∀ (l : List RecordId) (s : State), (s.grantBatch l).windows = s.windows
  | [], _ => rfl
  | r :: l, s => by
    unfold State.grantBatch
    split
    · exact (grantBatch_windows l _).trans (grant_windows s r)
    · rfl

theorem completeUpgrade_windows (s : State) (w : WindowId) (r : RecordId) :
    (s.completeUpgrade w r).windows = s.windows := by
  unfold State.completeUpgrade
  exact post_windows ..

/-- A grant pass changes no window record. -/
theorem grantPass_windows (s : State) (w : WindowId) : (s.grantPass w).windows = s.windows := by
  unfold State.grantPass State.grantSteps
  repeat' split
  all_goals first
    | rfl
    | exact completeUpgrade_windows ..
    | exact grant_windows ..
    | exact grantBatch_windows ..

/-! ### The answer to a checked command (R165) -/

/-- No refusal exactly when every check passes. -/
theorem firstRefusal_none {l : List (Bool × OutcomeCode)} :
    firstRefusal l = none ↔ ∀ p ∈ l, p.1 = false := by
  induction l with
  | nil => simp [firstRefusal]
  | cons p l ih =>
    obtain ⟨b, o⟩ := p
    cases b <;> simp [firstRefusal, ih]

/-- A refusal's outcome is one of the checks'. -/
theorem firstRefusal_some {l : List (Bool × OutcomeCode)} {o : OutcomeCode} (h : firstRefusal l = some o) :
    (true, o) ∈ l := by
  induction l with
  | nil => simp [firstRefusal] at h
  | cons p l ih =>
    obtain ⟨b, o'⟩ := p
    cases b
    · exact List.mem_cons_of_mem _ (ih (by simpa [firstRefusal] using h))
    · simp only [firstRefusal, if_true, Option.some.injEq] at h
      simp [h]

/-- A checked command is refused and changes nothing, or has passed every check and has its effect. -/
theorem answer_cases (s : State) (checks : List (Bool × OutcomeCode)) (effect : State × Reply) :
    (∃ o, (true, o) ∈ checks ∧ s.answer checks effect = (s, Reply.refusal o)) ∨
      ((∀ p ∈ checks, p.1 = false) ∧ s.answer checks effect = effect) := by
  unfold State.answer
  cases h : firstRefusal checks with
  | some o => exact .inl ⟨o, firstRefusal_some h, rfl⟩
  | none => exact .inr ⟨firstRefusal_none.mp h, rfl⟩

/-! ### The take (R161, R162) -/

/-- The take of a command whose entry the arbiter reaches. -/
theorem runCommand_of_takes {s : State} {c : SlotId} {e : CommandEntry} {code : BitVec 8}
    (h : TakesCommand s c e code) (f : SlotId → CommandEntry → State → State × Reply) :
    runCommand code f s = .next ((f c e (s.popCommand c)).1.pushResponse c e (f c e (s.popCommand c)).2) := by
  obtain ⟨h1, h2, h3⟩ := h
  simp [runCommand, State.takeWhere, State.completeTake, h1, h2, h3]

/-- Where the arbiter reaches no entry of this command, or POR# is asserted, no such take happens. -/
theorem runCommand_of_not_takes {s : State} {code : BitVec 8} (h : ∀ c e, ¬TakesCommand s c e code)
    (f : SlotId → CommandEntry → State → State × Reply) : runCommand code f s = .next s := by
  unfold runCommand State.takeWhere
  cases h1 : s.porAsserted with
  | true => rfl
  | false =>
    cases h2 : s.nextTake with
    | none => rfl
    | some p =>
      have h3 : ¬p.2.opcode = code := fun h3 => h p.1 p.2 ⟨h1, h2, h3⟩
      simp [h3]

theorem popCommand_beside (s : State) (c : SlotId) :
    SameTables s (s.popCommand c) ∧ (s.popCommand c).slots = s.slots ∧ (s.popCommand c).notices = s.notices ∧
      SameRole s (s.popCommand c) ∧ SameClock s (s.popCommand c) ∧ SameOutside s (s.popCommand c) :=
  ⟨⟨rfl, rfl, rfl⟩, rfl, rfl, ⟨rfl, rfl, rfl⟩, ⟨rfl, rfl, rfl, rfl⟩, ⟨rfl, rfl, rfl, rfl, rfl⟩⟩

@[simp] theorem window_popCommand (s : State) (c : SlotId) (w : WindowId) : (s.popCommand c).window w = s.window w := rfl

@[simp] theorem record_popCommand (s : State) (c : SlotId) (r : RecordId) : (s.popCommand c).record r = s.record r := rfl

@[simp] theorem claim_popCommand (s : State) (c : SlotId) (w : WindowId) : (s.popCommand c).claim w = s.claim w := rfl

@[simp] theorem slot_popCommand (s : State) (c n : SlotId) : (s.popCommand c).slot n = s.slot n := rfl

@[simp] theorem queue_popCommand (s : State) (c n : SlotId) : (s.popCommand c).queue n = s.queue n := rfl

@[simp] theorem master_popCommand (s : State) (c : SlotId) : (s.popCommand c).master = s.master := rfl

@[simp] theorem pointer_popCommand (s : State) (c : SlotId) : (s.popCommand c).pointer = c := rfl

@[simp] theorem port_popCommand (s : State) (c n : SlotId) :
    (s.popCommand c).port n =
      if n = c then { s.port c with commands := (s.port c).commands.tail } else s.port n := by
  simp [State.popCommand, State.port, State.setPort, Vector.getElem_set, Fin.ext_iff, eq_comm]

theorem pushResponse_beside (s : State) (c : SlotId) (e : CommandEntry) (y : Reply) :
    SameTables s (s.pushResponse c e y) ∧ (s.pushResponse c e y).slots = s.slots ∧
      (s.pushResponse c e y).notices = s.notices ∧ (s.pushResponse c e y).pointer = s.pointer ∧
      SameRole s (s.pushResponse c e y) ∧ SameClock s (s.pushResponse c e y) ∧ SameOutside s (s.pushResponse c e y) :=
  ⟨⟨rfl, rfl, rfl⟩, rfl, rfl, rfl, ⟨rfl, rfl, rfl⟩, ⟨rfl, rfl, rfl, rfl⟩, ⟨rfl, rfl, rfl, rfl, rfl⟩⟩

@[simp] theorem port_pushResponse (s : State) (c n : SlotId) (e : CommandEntry) (y : Reply) :
    (s.pushResponse c e y).port n =
      if n = c then { s.port c with responses := (s.port c).responses ++ [responseTo e y] } else s.port n := by
  unfold State.pushResponse responseTo
  simp

/-- A take whose command leaves ports, slots, role, clock and outside alone is answered, and changes the tables and the
notice queues at most. -/
theorem answeredInTables_of_beside {s m : State} {c : SlotId} (e : CommandEntry) (y : Reply)
    (h : SameBesideClaims (s.popCommand c) m) : AnsweredInTables s (m.pushResponse c e y) c e y where
  answered := by
    refine ⟨h.pointer, ?_, fun n hn => ?_⟩
    · simp [h.port]
    · simp [h.port, hn]
  rack :=
    ⟨h.slots, ⟨h.role.master, h.role.eligible, h.role.silenceLimit⟩,
      ⟨h.clock.tickSelect, h.clock.divider, h.clock.claimTicksDue, h.clock.slotTicksDue⟩,
      ⟨h.outside.inHand, h.outside.portAnswer, h.outside.presLines, h.outside.porAsserted, h.outside.pending⟩⟩

/-- A take whose command changes nothing is answered and nothing else. -/
theorem onlyAnswered_pop (s : State) (c : SlotId) (e : CommandEntry) (y : Reply) :
    OnlyAnswered s ((s.popCommand c).pushResponse c e y) c e y where
  answered := (answeredInTables_of_beside e y (.refl _)).answered
  rack := (answeredInTables_of_beside e y (.refl _)).rack
  tables := ⟨rfl, rfl, rfl⟩
  notices := rfl

/-! ### Standing and ports -/

/-- The silence reload touches an ACTIVE slot's counter alone (R122, R134, R158). -/
theorem slot_reloadSilence (s : State) (n m : SlotId) :
    (s.reloadSilence n).slot m =
      if m = n ∧ (s.slot n).state = .active then { s.slot n with silence := s.silenceLimit } else s.slot m := by
  unfold State.reloadSilence
  by_cases h : (s.slot n).state = .active <;> by_cases k : m = n <;> simp [h, k]

/-- Removal leaves a slot's port with PARAM0 to PARAM2 alone (R129, R166). -/
theorem port_clearPort (s : State) (n m : SlotId) :
    (s.clearPort n).port m =
      if m = n then { s.port n with commands := [], responses := [], attnEnable := false, holding := 0 }
      else s.port m := by
  by_cases k : m = n <;> simp [State.clearPort, State.emptyQueue, k]

/-- Slot reset leaves nothing in a slot's port (R130, R166). -/
theorem port_clearPortAndParams (s : State) (n m : SlotId) :
    (s.clearPortAndParams n).port m = if m = n then SlotPort.cleared else s.port m := by
  by_cases k : m = n <;> simp [State.clearPortAndParams, port_clearPort, k, SlotPort.cleared]

/-- Both empty the slot's notice queue and no other (R156). -/
theorem queue_clearPort (s : State) (n m : SlotId) :
    (s.clearPort n).queue m = if m = n then [] else s.queue m := by
  by_cases k : m = n <;> simp [State.clearPort, State.emptyQueue, k]

theorem queue_clearPortAndParams (s : State) (n m : SlotId) :
    (s.clearPortAndParams n).queue m = if m = n then [] else s.queue m := by
  simp [State.clearPortAndParams, queue_clearPort]

/-! ### The step -/

/-- With a command in front, a step is that command on the state with the rest. -/
theorem step_of_pending {s : State} {i : Instr} {rest : List Instr} (h : s.pending = i :: rest) :
    step s = exec i { s with pending := rest } := by
  simp [step, h]

/-- With none, a step is one REFCLK cycle. -/
theorem step_of_idle {s : State} (h : s.pending = []) : step s = .next s.refclk := by
  simp [step, h]

/-- A property that every piece of a fold keeps is kept by the fold. -/
theorem foldl_keeps {α β : Type} {P : β → Prop} {f : β → α → β} (h : ∀ b a, P b → P (f b a)) :
    ∀ (l : List α) (b : β), P b → P (l.foldl f b)
  | [], _, hb => hb
  | a :: l, b, hb => foldl_keeps h l (f b a) (h b a hb)

end Sys2Proof.Machine
end

