-- ==== Sys2Proof/Tests/Slice0.lean ====
section
/-! SUPPORT. Tests/Slice0.lean: small checks of the model against the spec's rules and examples, and for every statement
with hypotheses a state and operands that meet them. -/

set_option Elab.async false

namespace Sys2Proof.Tests

open Sys2Proof Sys2Proof.Machine

/-! ### The states used -/

/-- Window `i` of the test rack: 64 KiB from 4000_0000h + i × 64 KiB, target 2, lease 50, grace 8, recall limit 6. -/
def window (i : Nat) (x : WindowState) : WindowRecord :=
  { state := x, base := BitVec.ofNat 32 (0x40000000 + i * 0x10000), sizeCode := 4, target := 2,
    share := .sharedAllowed, foreign := .refuse, renewOnAccess := true, lease := 50, grace := 8, recallLimit := 6 }

/-- A claim record of the test rack; its tag is 30h and the slot's number. -/
def claimOf (n : SlotId) (w : WindowId) (phase : ClaimPhase) (mode : Mode) (counter : Ticks) : ClaimRecord :=
  { phase := phase, slot := n, window := w, mode := mode, tag := BitVec.ofNat 8 (0x30 + n.val), counter := counter,
    beneficiary := false }

def activeSlot : SlotRecord :=
  { state := .active, exitReason := .none, identity := 7, slotClass := 3, quota := 16, silence := 9 }

/-- Slots 0 to 3 ACTIVE with slot 0 master, slot 4 PRESENT, slots 5 to 7 ABSENT; one tick issued and not yet taken. Windows: 0 OPEN and unheld, 1 CLOSED, 2
OPEN with two SHARED holds, 3 OPEN with an EXCLUSIVE hold and two waiters, 4 OPEN under recall with beneficiary slot 2, 5
DRAINING, 6 OPEN with pending upgrader slot 1, 8 OPEN with one SHARED hold, the rest UNDEFINED. -/
def rack : State :=
  let s := State.powerOn 0x1F 0x0F
  let s := (((s.setSlot 0 activeSlot).setSlot 1 activeSlot).setSlot 2 activeSlot).setSlot 3 activeSlot
  let s := { s with master := some 0, silenceLimit := 9, claimTicksDue := 1, slotTicksDue := 1 }
  let s := (((s.setWindow 0 (window 0 .opened)).setWindow 1 (window 1 .closed)).setWindow 2 (window 2 .opened))
  let s := (((s.setWindow 3 (window 3 .opened)).setWindow 4 (window 4 .opened)).setWindow 5 (window 5 .draining))
  let s := (s.setWindow 6 (window 6 .opened)).setWindow 8 (window 8 .opened)
  let s := (s.setRecord 0 (claimOf 1 2 .held .shared 50)).setRecord 1 (claimOf 2 2 .lapsing .shared 3)
  let s := (s.setRecord 2 (claimOf 1 3 .held .exclusive 20)).setRecord 3 (claimOf 2 3 .waiting .exclusive 4)
  let s := (s.setRecord 4 (claimOf 3 3 .waiting .shared 0)).setRecord 5 (claimOf 1 4 .recalled .exclusive 6)
  let s := s.setRecord 6 { claimOf 2 4 .waiting .exclusive 0 with tag := 0, beneficiary := true }
  let s := (s.setRecord 7 (claimOf 3 5 .recalled .shared 2)).setRecord 8 (claimOf 1 6 .held .shared 50)
  let s := (s.setRecord 9 (claimOf 2 6 .held .shared 50)).setRecord 10 (claimOf 1 8 .held .shared 50)
  let s := s.setClaim 3 { waitList := [3, 4], upgrader := none, marker := .idle }
  let s := s.setClaim 4 { waitList := [6], upgrader := none, marker := .inProgress (some 2) }
  s.setClaim 6 { waitList := [], upgrader := some 1, marker := .idle }

/-- A queue of two notices for slot 1, and two responses. -/
def served : State :=
  let s := (rack.setQueue 1 [{ subject := .window 5, body := .granted .exclusive 0x2C, folded := true },
    { subject := .unmapped, body := .violation .read .unmapped, folded := false }])
  s.setPort 1
    { s.port 1 with
      holding := 0x77
      attnEnable := true
      responses := [{ tag := 1, opcode := 2, outcome := .ok, ext := 0, word1 := 5, word2 := 0 },
        { tag := 9, opcode := 3, outcome := .queued, ext := 0, word1 := 6, word2 := 0 }] }

/-- A command with tag 5Ah. -/
def entry (op p0 p1 p2 : Nat) : CommandEntry :=
  { opcode := BitVec.ofNat 8 op, tag := 0x5A, param0 := BitVec.ofNat 32 p0, param1 := BitVec.ofNat 32 p1,
    param2 := BitVec.ofNat 32 p2 }

/-- The command stands alone in slot `c`'s command FIFO. -/
def give (s : State) (c : SlotId) (e : CommandEntry) : State := s.setPort c { s.port c with commands := [e] }

/-- The state after a step. -/
def run (i : Instr) (s : State) : State :=
  match exec i s with
  | .next t => t
  | .fault f => nomatch f
  | .refused _ => s

/-- The outcome and words of slot `c`'s last response. -/
def answerOf (s : State) (c : SlotId) : Option (OutcomeCode × Word × Word) :=
  (s.port c).responses.getLast?.map fun x => (x.outcome, x.word1, x.word2)

/-! ### The terms that WellFormed refuses -/

theorem test_wellFormed_refuses_cycle_outside_shared_space :
    (Instr.cycleCheck 0 0x3FFFFFFF .read 32).wellFormed = false := by decide

theorem test_wellFormed_refuses_cycle_of_no_width :
    (Instr.cycleCheck 0 0x40000000 .read 0).wellFormed = false := by decide

theorem test_wellFormed_refuses_write_outside_block :
    (Instr.controlBlockWrite 0 0x4A40 32 0).wellFormed = false := by decide

theorem test_wellFormed_refuses_write_of_no_width :
    (Instr.controlBlockWrite 0 0x4A08 0 0).wellFormed = false := by decide

theorem test_wellFormed_refuses_read_outside_block :
    (Instr.controlBlockRead 0 0x49FF 32).wellFormed = false := by decide

theorem test_wellFormed_refuses_read_of_no_width :
    (Instr.controlBlockRead 0 0x4A08 0).wellFormed = false := by decide

/-! ### Commands -/

/-- R131: the class is PARAM1 bits 7:0, and the counter is loaded with the silence limit. -/
theorem test_join_writes_standing : (run .join (give rack 4 (entry 1 0xABCD 0x1FF 0))).slot 4 =
    { state := .active, exitReason := .none, identity := 0xABCD, slotClass := 0xFF, quota := 16, silence := 9 } := by
  decide +kernel

/-- R132: slot 1 has five records. -/
theorem test_leave_counts_records :
    (leaveCommand 1 (entry 2 0 0 0) rack).2 = Reply.success .ok 5 0 := by decide +kernel

/-- R135 steps 2 and 3: LEAVE leaves the slot PRESENT with reason LEFT and its queue empty. -/
theorem test_leave_standing :
    (((rack.setQueue 1 [{ subject := .role, body := .role .lost, folded := false }]).leaveActive 1 .left).exitPort 1
      .left).queue 1 = [] ∧ ((rack.leaveActive 1 .left).slot 1).state = .present := by decide +kernel

/-- R42, R43: an EXCLUSIVE claim on unheld window 0 takes record 11. -/
theorem test_claim_at_once :
    answerOf (run .claim (give rack 3 (entry 3 0x200 9 0))) 3 = some (.ok, 0x10B, 0) := by decide +kernel

/-- R45: on window 3 two claims wait already. -/
theorem test_claim_queues_third :
    answerOf (run .claim (give rack 0 (entry 3 0x203 9 0))) 0 = some (.queued, 0x3010B, 0) ∧
      ((run .claim (give rack 0 (entry 3 0x203 9 0))).claim 3).waitList = [3, 4, 11] := by decide +kernel

/-- R55: the record behind the withdrawn head moves up. -/
theorem test_withdraw_head :
    ((run .withdraw (give rack 2 (entry 4 3 0 0))).claim 3).waitList = [4] := by decide +kernel

/-- R56: bit 8 reports that an upgrade was withdrawn. -/
theorem test_withdraw_upgrade :
    answerOf (run .withdraw (give rack 1 (entry 4 6 0 0))) 1 = some (.ok, 0x108, 0) ∧
      ((run .withdraw (give rack 1 (entry 4 6 0 0))).claim 6).upgrader = none := by decide +kernel

/-- R64, R48 step 3: the release of the one EXCLUSIVE hold grants the head, record 3. -/
theorem test_release_grants_head :
    answerOf (run .release (give rack 1 (entry 5 3 0 0))) 1 = some (.ok, 0x2202, 0) ∧
      ((run .release (give rack 1 (entry 5 3 0 0))).record 3).phase = .held := by decide +kernel

/-- R13: the release of the last hold of a DRAINING window reports CLOSED. -/
theorem test_release_closes_draining :
    answerOf (run .release (give rack 3 (entry 5 5 0 0))) 3 = some (.ok, 0x1407, 0) := by decide +kernel

/-- R66: a LAPSING hold is restored. -/
theorem test_renew_restores_lapsing :
    (run .renew (give rack 2 (entry 6 2 0 0))).record 1 = claimOf 2 2 .held .shared 50 := by decide +kernel

/-- R69: one other holder remains on window 2. -/
theorem test_upgrade_becomes_pending :
    answerOf (run .upgrade (give rack 1 (entry 7 2 0 0))) 1 = some (.queued, 0x10000, 0) := by decide +kernel

/-- R69: the sole holder becomes EXCLUSIVE at once. -/
theorem test_upgrade_sole_holder :
    ((run .upgrade (give rack 1 (entry 7 8 0 0))).record 10).mode = .exclusive := by decide +kernel

/-- R71, R72: the head of window 3 is EXCLUSIVE, so the pass grants nothing. -/
theorem test_downgrade_reloads :
    (run .downgrade (give rack 1 (entry 8 3 0 0))).record 2 = claimOf 1 3 .held .shared 50 ∧
      ((run .downgrade (give rack 1 (entry 8 3 0 0))).claim 3).waitList = [3, 4] := by decide +kernel

/-- R74: slot 2's waiting record becomes the hold. -/
theorem test_transfer_hands_hold :
    answerOf (run .transfer (give rack 1 (entry 9 3 2 0))) 1 = some (.ok, 0x20002, 3) ∧
      (run .transfer (give rack 1 (entry 9 3 2 0))).record 3 = claimOf 2 3 .held .exclusive 50 := by decide +kernel

/-- R167, view DEFINITION of window 3. -/
theorem test_queryWindow_definition :
    answerOf (run .queryWindow (give rack 4 (entry 0xA 3 0 0))) 4 = some (.ok, 0x06080032, 0x40030924) := by
  decide +kernel

/-- R167, view CLAIMS of window 4 for slot 2: its record 6 at position 1; recall with beneficiary slot 2. -/
theorem test_queryWindow_claims :
    answerOf (run .queryWindow (give rack 2 (entry 0xA 0x104 0 0))) 2 = some (.ok, 0x09860000, 0x2C61) := by
  decide +kernel

/-- R168: slot 1's record, five records in use. -/
theorem test_querySlot_reports :
    answerOf (run .querySlot (give rack 0 (entry 0xB 1 0 0))) 0 = some (.ok, 0x10030009, 7) := by decide +kernel

/-- R140. -/
theorem test_takeMaster_gains :
    (run .takeMaster (give { rack with master := none } 2 (entry 0xC 0 0 0))).master = some 2 := by decide +kernel

/-- The table of window 1's examples: window 3 CLOSED at 4100_0000h, 16 MiB. -/
def defined3 : State :=
  let s := { (State.powerOn 0x01 0x01).setSlot 0 activeSlot with master := some 0 }
  s.setWindow 3 { window 0 .closed with base := 0x41000000, sizeCode := 12 }

/-- Chapter 1's example: window 5 at 4180_0000h lies inside window 3. -/
theorem test_define_overlap :
    answerOf (run .define (give defined3 0 (entry 0x10 0x10805 0x41800000 0x01010000))) 0 = some (.overlap, 0, 0) := by
  decide +kernel

/-- Chapter 1's example: 4200_0000h begins just above it. -/
theorem test_define_adjacent :
    answerOf (run .define (give defined3 0 (entry 0x10 0x10805 0x42000000 0x01010000))) 0 = some (.ok, 0x105, 0) := by
  decide +kernel

/-- R10. -/
theorem test_undefine_clears :
    (run .undefine (give rack 0 (entry 0x11 1 0 0))).window 1 = WindowRecord.cleared := by decide +kernel

/-- R11. -/
theorem test_open_closed_window :
    answerOf (run .openWindow (give rack 0 (entry 0x12 1 0 0))) 0 = some (.ok, 0x201, 0) := by decide +kernel

/-- R102: waiters withdrawn, holds recalled. -/
theorem test_close_drains :
    (run .closeWindow (give rack 0 (entry 0x13 3 0 0))).claim 3 = WindowClaims.cleared ∧
      (run .closeWindow (give rack 0 (entry 0x13 3 0 0))).record 2 = claimOf 1 3 .recalled .exclusive 6 := by
  decide +kernel

/-- R12: an unheld window closes at once, and the caller is told. -/
theorem test_close_unheld :
    (run .closeWindow (give rack 0 (entry 0x13 0 0 0))).queue 0 =
      [{ subject := .window 0, body := .windowClosed, folded := false }] := by decide +kernel

/-- R95, R96: two holds recalled, and slot 3's new record 11 placed at the head. -/
theorem test_recall_held :
    answerOf (run .recallWindow (give rack 0 (entry 0x14 2 0x103 0))) 0 = some (.ok, 0x32, 0xB) ∧
      ((run .recallWindow (give rack 0 (entry 0x14 2 0x103 0))).claim 2).marker = .inProgress (some 3) := by
  decide +kernel

/-- R97: on unheld window 0 the beneficiary holds at once. -/
theorem test_recall_unheld :
    answerOf (run .recallWindow (give rack 0 (entry 0x14 0 0x103 0))) 0 = some (.ok, 0x20, 0xB) ∧
      ((run .recallWindow (give rack 0 (entry 0x14 0 0x103 0))).record 11).phase = .held := by decide +kernel

/-- R133: slot 3 had two records. -/
theorem test_evict_counts_records :
    (evictCommand 0 (entry 0x15 3 0 0) rack).2 = Reply.success .ok 0x203 0 := by decide +kernel

/-- R135 step 3: the evicted slot's queue holds EXITED alone. -/
theorem test_evict_leaves_exited :
    (((rack.setQueue 3 [{ subject := .role, body := .role .lost, folded := false }]).leaveActive 3 .evicted).exitPort 3
      .evicted).queue 3 = [{ subject := .slot 3, body := .exited .evicted, folded := false }] := by decide +kernel

/-- R138. -/
theorem test_setQuota_below_use :
    answerOf (run .setQuota (give rack 0 (entry 0x16 1 4 0))) 0 = some (.quotaBelowUse, 0, 0) := by decide +kernel

/-- R141: the set must contain the caller. -/
theorem test_setEligible_without_caller :
    answerOf (run .setEligible (give rack 0 (entry 0x17 0xFE 0 0))) 0 = some (.badParam, 0, 0) := by decide +kernel

/-- R80: an unchanged tick select leaves the divider. -/
theorem test_setTiming_keeps_divider :
    (run .setTiming (give { rack with divider := 40 } 0 (entry 0x18 1 5 0))).divider = 40 ∧
      (run .setTiming (give { rack with divider := 40 } 0 (entry 0x18 2 5 0))).divider = 0 := by decide +kernel

/-- R141. -/
theorem test_handMaster : (run .handMaster (give rack 0 (entry 0x19 3 0 0))).master = some 3 := by decide +kernel

/-- R165 step 1. -/
theorem test_unknown_opcode :
    answerOf (run .unknownOpcode (give rack 1 (entry 0x0D 0 0 0))) 1 = some (.badOpcode, 0, 0) := by decide +kernel

/-! ### Control block -/

theorem test_respPop_removes_head : ((run (.respPop 1 0) served).port 1).responses.length = 1 := by decide +kernel

/-- Chapter 9's example, step 4: the holding word is EXCLUSIVE with tag 2Ch. -/
theorem test_notice0Read_fills_holding :
    ((run (.notice0Read 1) served).port 1).holding = 0x2C01 ∧
      (run (.notice0Read 1) served).portAnswer = .accepted 0x10501 := by decide +kernel

/-- R152: the pop leaves the holding word. -/
theorem test_noticePop_keeps_holding :
    ((run (.noticePop 1 0) served).port 1).holding = 0x77 ∧ ((run (.noticePop 1 0) served).queue 1).length = 1 := by
  decide +kernel

/-- R154, R155: ATN[1] falls with the enable. -/
theorem test_attnEnWrite_clears : served.atn 1 = true ∧ (run (.attnEnWrite 1 2) served).atn 1 = false := by
  decide +kernel

/-- R160: opcode in bits 7:0, tag in bits 15:8. -/
theorem test_command_write_pushes :
    ((run (.controlBlockWrite 1 0x4A14 32 0xFFFF2103) rack).port 1).commands =
      [{ opcode := 3, tag := 0x21, param0 := 0, param1 := 0, param2 := 0 }] := by decide +kernel

/-- R157: a 16-bit write is refused. -/
theorem test_narrow_write_refused :
    (run (.controlBlockWrite 1 0x4A08 16 5) rack).terr = true ∧
      ((run (.controlBlockWrite 1 0x4A08 16 5) rack).port 1).param0 = 0 := by decide +kernel

/-- R164: after power-on a PRESENT slot reads a free count of 4, counts 0 and state PRESENT. -/
theorem test_status_after_power_on :
    (run (.controlBlockRead 2 0x4A00 32) (State.powerOn 0x04 0)).portAnswer = .accepted 0x10004 := by decide +kernel

/-- R163: RESP0 of the head response. -/
theorem test_resp0_read :
    (run (.controlBlockRead 1 0x4A18 32) served).portAnswer = .accepted 0x10201 := by decide +kernel

/-! ### Cycles -/

/-- R89, R119: the SHARED holder's read passes to target 2 and renews its LAPSING hold. -/
theorem test_read_passes_and_renews :
    (run (.cycleCheck 2 0x40020010 .read 8) rack).ts 2 = true ∧
      (run (.cycleCheck 2 0x40020010 .read 8) rack).record 1 = claimOf 2 2 .held .shared 50 := by decide +kernel

/-- R115, R120: its write is refused with SHARED_WRITE. -/
theorem test_shared_write_refused :
    (run (.cycleCheck 2 0x40020010 .write 32) rack).terr = true ∧
      (run (.cycleCheck 2 0x40020010 .write 32) rack).queue 2 =
        [{ subject := .window 2, body := .violation .write .sharedWrite, folded := false }] := by decide +kernel

/-- R119: no select line between cycles. -/
theorem test_cycleEnd_drops :
    (run .cycleEnd (run (.cycleCheck 1 0x40030000 .write 32) rack)).inHand = none := by decide +kernel

/-! ### The tick -/

theorem test_tick_issues : (run .tick rack).claimTicksDue = 2 ∧ (run .tick rack).slotTicksDue = 2 := by decide +kernel

/-- R79: at tick select 1 a period is 25,000 cycles of 25 MHz. -/
theorem test_period_of_one_millisecond : Config.tickPeriod 1 = 25000 := by decide

/-- R83: RECALLED and counting WAITING records count, a wait of 0 does not. -/
theorem test_claimTableTick_counts :
    ((rack.tickWindow 4).record 5).counter = 5 ∧ ((rack.tickWindow 3).record 3).counter = 3 ∧
      ((rack.tickWindow 3).record 4).counter = 0 := by decide +kernel

/-- Chapter 5's second example, step 3: the hold is forced, and the beneficiary is granted on the same tick. -/
theorem test_claimTableTick_ends_recall :
    (((rack.setPhase 5 .recalled 1).tickWindow 4).record 6).phase = .held ∧
      (((rack.setPhase 5 .recalled 1).tickWindow 4).claim 4).marker = .idle := by decide +kernel

/-- R134, R82: the tick that was due is taken, and no other. -/
theorem test_slotTableTick_counts :
    ((run .slotTableTick rack).slot 2).silence = 8 ∧
      run .slotTableTick (run .slotTableTick rack) = run .slotTableTick rack := by decide +kernel

/-- R82: the Claim Table takes no tick that has not been issued. -/
theorem test_claimTableTick_waits_for_issue :
    run .claimTableTick { rack with claimTicksDue := 0 } = { rack with claimTicksDue := 0 } := by decide +kernel

/-- R84. -/
theorem test_waitTimeout_withdraws :
    (run (.waitTimeout 3) (rack.setPhase 3 .waiting 1)).queue 2 =
      [{ subject := .window 3, body := .withdrawn .timedOut, folded := false }] := by decide +kernel

/-- R85. -/
theorem test_leaseExpiry_lapses :
    (run (.leaseExpiry 2) (rack.setPhase 2 .held 1)).record 2 = claimOf 1 3 .lapsing .exclusive 8 := by decide +kernel

/-- R86, R48 step 1: on window 6 the lapse of slot 2's hold leaves the upgrader alone. -/
theorem test_graceExpiry_completes_upgrade :
    ((run (.graceExpiry 9) (rack.setPhase 9 .lapsing 1)).record 8).mode = .exclusive := by decide +kernel

/-- R87, R13. -/
theorem test_recallLimitExpiry_closes :
    ((run (.recallLimitExpiry 7) (rack.setPhase 7 .recalled 1)).window 5).state = .closed := by decide +kernel

/-- R134: the slot exits SILENT. -/
theorem test_silenceExpiry_exits :
    run (.silenceExpiry 3) (rack.setSlot 3 { activeSlot with silence := 1 }) =
      (rack.setSlot 3 { activeSlot with silence := 1 }).exit 3 .silent := by
  show State.lastSilence _ _ = _
  exact if_pos (by decide +kernel)

/-! ### Lines and resets -/

theorem test_presRise : ((run (.presRise 5) rack).slot 5).state = .present := by decide +kernel

/-- R129: removal of a PRESENT slot. -/
theorem test_presFall_removes :
    ((run (.presFall 4) rack).slot 4).exitReason = .removed ∧ ((run (.presFall 4) rack).slot 4).state = .absent := by
  decide +kernel

/-- R130: PARAM0 is cleared. -/
theorem test_slotReset_clears_params :
    ((run (.slotReset 4) (run (.controlBlockWrite 4 0x4A08 32 5) rack)).port 4).param0 = 0 := by decide +kernel

/-- R19, R145. -/
theorem test_backplaneReset :
    ((run .backplaneReset rack).window 5).state = .closed ∧ ((run .backplaneReset rack).slot 1).exitReason = .reset := by
  decide +kernel

/-- R144. -/
theorem test_powerOnReset :
    ((run (.powerOnReset 0x21) rack).slot 4).state = .present ∧ (run (.powerOnReset 0x21) rack).eligible = 0x21 := by
  decide +kernel

theorem test_porAsserted_takes_nothing :
    (run .tick (run .porAsserted rack)).claimTicksDue = 1 := by decide +kernel

/-! ### Faster searches of the pool

The kernel reads record `r` of a vector in `r` steps; a search is quicker over the pool as one list. -/

/-- The pool as a list of numbered records. -/
def pool (s : State) : List (RecordId × ClaimRecord) := allRecords.zip s.records.toList

theorem pool_eq (s : State) : pool s = allRecords.map fun r => (r, s.record r) := by
  apply List.ext_getElem
  · simp [pool, allRecords]
  · intro i h1 h2
    simp [pool, allRecords, State.record]

/-- A filter of the pool, over the list. -/
def poolFilter (s : State) (p : RecordId × ClaimRecord → Bool) : List RecordId := ((pool s).filter p).map Prod.fst

/-- A search of the pool, over the list. -/
def poolFind (s : State) (p : RecordId × ClaimRecord → Bool) : Option RecordId := ((pool s).find? p).map Prod.fst

theorem filter_fast (s : State) (p : RecordId × ClaimRecord → Bool) :
    (allRecords.filter fun r => p (r, s.record r)) = poolFilter s p := by
  simp [poolFilter, pool_eq, List.filter_map, Function.comp_def]

theorem find_fast (s : State) (p : RecordId × ClaimRecord → Bool) :
    (allRecords.find? fun r => p (r, s.record r)) = poolFind s p := by
  simp [poolFind, pool_eq, List.find?_map, Function.comp_def]

theorem holders_fast (s : State) (w : WindowId) :
    s.holders w = poolFilter s fun x => x.2.phase.isHold && decide (x.2.window = w) :=
  filter_fast s fun x => x.2.phase.isHold && decide (x.2.window = w)

theorem holdOf_fast (s : State) (n : SlotId) (w : WindowId) :
    s.holdOf n w = poolFind s fun x => x.2.phase.isHold && decide (x.2.window = w) && decide (x.2.slot = n) :=
  find_fast s fun x => x.2.phase.isHold && decide (x.2.window = w) && decide (x.2.slot = n)

theorem waitingOf_fast (s : State) (n : SlotId) (w : WindowId) :
    s.waitingOf n w =
      poolFind s fun x => decide (x.2.phase = .waiting) && decide (x.2.slot = n) && decide (x.2.window = w) :=
  find_fast s fun x => decide (x.2.phase = .waiting) && decide (x.2.slot = n) && decide (x.2.window = w)

theorem recordOf_fast (s : State) (n : SlotId) (w : WindowId) :
    s.recordOf n w =
      poolFind s fun x => decide (x.2.phase ≠ .free) && decide (x.2.slot = n) && decide (x.2.window = w) :=
  find_fast s fun x => decide (x.2.phase ≠ .free) && decide (x.2.slot = n) && decide (x.2.window = w)

theorem inUse_fast (s : State) (n : SlotId) :
    s.inUse n = (poolFilter s fun x => decide (x.2.phase ≠ .free) && decide (x.2.slot = n)).length :=
  congrArg List.length (filter_fast s fun x => decide (x.2.phase ≠ .free) && decide (x.2.slot = n))

theorem lowestFree_fast (s : State) : s.lowestFree = poolFind s fun x => decide (x.2.phase = .free) :=
  find_fast s fun x => decide (x.2.phase = .free)

/-! ### The test rack keeps every law -/

theorem rack_free (r : RecordId) (h : 11 ≤ r.val) : rack.record r = ClaimRecord.cleared := by
  have key : (pool rack).all (fun x => decide (x.1.val < 11) || decide (x.2 = ClaimRecord.cleared)) = true := by
    decide +kernel
  rw [pool_eq] at key
  have h' := List.all_eq_true.mp key (r, rack.record r) (List.mem_map.mpr ⟨r, List.mem_finRange r, rfl⟩)
  simp at h'
  exact h'.resolve_left (by omega)

/-- A record in use is one of the first eleven. -/
theorem rack_used {r : RecordId} (h : (rack.record r).phase ≠ .free) : r.val < 11 := by
  by_contra hn
  exact h (by rw [rack_free r (by omega)]; rfl)

/-- A fact of each of the first eleven records, and of a cleared record, is a fact of every record. -/
theorem rack_records {p : RecordId → ClaimRecord → Prop} (h1 : ∀ i : Fin 11, p (i.castLE (by omega)) (rack.record (i.castLE (by omega))))
    (h2 : ∀ r, p r ClaimRecord.cleared) (r : RecordId) : p r (rack.record r) := by
  by_cases h : r.val < 11
  · exact h1 ⟨r.val, h⟩
  · rw [rack_free r (by omega)]; exact h2 r

theorem rack_waitLists : WaitListsLawful rack := by
  have h0 : ∀ w, (rack.claim w).waitList.Nodup ∧ ∀ r ∈ (rack.claim w).waitList,
      (rack.record r).phase = .waiting ∧ (rack.record r).window = w := by decide +kernel
  have h1 : ∀ i : Fin 11, (rack.record (i.castLE (by omega))).phase = .waiting →
      i.castLE (by omega) ∈ (rack.claim (rack.record (i.castLE (by omega))).window).waitList := by decide +kernel
  refine fun w => ⟨(h0 w).1, fun r => ⟨(h0 w).2 r, fun ⟨hp, hw⟩ => ?_⟩⟩
  have hr : r.val < 11 := rack_used (by rw [hp]; decide)
  exact hw ▸ h1 ⟨r.val, hr⟩ hp

theorem rack_pool : PoolLawful rack :=
  rack_records (p := fun _ c => c.phase = .free → c = ClaimRecord.cleared) (by decide +kernel) (fun _ _ => rfl)

theorem rack_pairs : ∀ i j : Fin 11, i ≠ j →
    ¬((rack.record (i.castLE (by omega))).slot = (rack.record (j.castLE (by omega))).slot ∧
      (rack.record (i.castLE (by omega))).window = (rack.record (j.castLE (by omega))).window) ∧
    ((rack.record (i.castLE (by omega))).phase.isHold = true → (rack.record (j.castLE (by omega))).phase.isHold = true →
      (rack.record (i.castLE (by omega))).window = (rack.record (j.castLE (by omega))).window →
      (rack.record (i.castLE (by omega))).mode = .shared ∧ (rack.record (j.castLE (by omega))).mode = .shared) := by
  decide +kernel

theorem used_of_isHold {c : ClaimRecord} (h : c.phase.isHold = true) : c.phase ≠ .free := by
  intro hf; rw [hf] at h; exact absurd h (by decide)

theorem rack_claims : ClaimsLawful rack where
  waitLists := rack_waitLists
  pool := rack_pool
  oneEach := fun q r hqr hq hr =>
    (rack_pairs ⟨q.val, rack_used hq⟩ ⟨r.val, rack_used hr⟩ (by simpa [Fin.ext_iff] using hqr)).1
  holders := fun q r hqr hq hr =>
    (rack_pairs ⟨q.val, rack_used (used_of_isHold hq)⟩ ⟨r.val, rack_used (used_of_isHold hr)⟩
      (by simpa [Fin.ext_iff] using hqr)).2 hq hr

theorem rack_placed : RecordsPlaced rack :=
  rack_records
    (p := fun _ c => (c.phase ≠ .free → (rack.slot c.slot).state = .active) ∧
      (c.phase = .waiting → (rack.window c.window).state = .opened) ∧
      (c.phase.isHold = true → (rack.window c.window).state = .opened ∨ (rack.window c.window).state = .draining) ∧
      (c.phase.isHold = true → (rack.window c.window).state = .draining → c.phase = .recalled))
    (by decide +kernel) (fun _ => by decide +kernel)

theorem rack_counters : CountersLawful rack :=
  rack_records (p := fun _ c => c.phase = .lapsing ∨ c.phase = .recalled → c.counter ≠ 0) (by decide +kernel)
    (fun _ => by decide)

theorem rack_quotas : QuotasLawful rack := by
  intro n
  rw [inUse_fast]
  revert n
  decide +kernel

theorem rack_upgraders : UpgradersLawful rack := by
  have h : ∀ w, w = 6 ∨ (rack.claim w).upgrader = none := by decide +kernel
  have h6 : (rack.claim 6).upgrader = some 1 := by decide +kernel
  intro w u hu
  rcases h w with rfl | h
  · obtain rfl : u = 1 := by rw [h6] at hu; exact (Option.some.inj hu).symm
    exact ⟨8, by rw [holdOf_fast]; decide +kernel, by decide +kernel, by decide +kernel⟩
  · rw [h] at hu; cases hu

theorem rack_recalls : RecallsLawful rack := by
  constructor
  · have h : ∀ w, w = 4 ∨ (rack.claim w).marker = .idle := by decide +kernel
    have h4 : rack.holders 4 = [5] := by rw [holders_fast]; decide +kernel
    intro w hw
    rcases h w with rfl | h
    · refine ⟨by decide +kernel, by rw [h4]; decide, by decide +kernel, fun r hr => ?_⟩
      have : r ∈ rack.holders 4 := List.mem_filter.mpr ⟨List.mem_finRange r, hr⟩
      rw [h4, List.mem_singleton] at this
      subst this
      decide +kernel
    · exact absurd h hw
  · exact rack_records
      (p := fun _ c => c.phase = .recalled →
        (rack.claim c.window).marker ≠ .idle ∨ (rack.window c.window).state = .draining)
      (by decide +kernel) (fun _ => by decide)

theorem rack_settled : PassesSettled rack := by
  have h : ∀ w, (w = 3 ∨ (rack.claim w).marker ≠ .idle ∨ (rack.claim w).waitList = []) ∧
      (w = 6 ∨ (rack.claim w).upgrader = none) := by decide +kernel
  have h3 : rack.holders 3 = [2] := by rw [holders_fast]; decide +kernel
  intro w _ hm
  constructor
  · intro r rest hl
    rcases (h w).1 with rfl | h | h
    · have : (rack.claim 3).waitList = [3, 4] := by decide +kernel
      rw [this] at hl
      obtain ⟨rfl, -⟩ := List.cons.inj hl
      exact ⟨by rw [h3]; decide, .inl (by decide +kernel)⟩
    · exact absurd hm h
    · rw [h] at hl; cases hl
  · intro u hu
    rcases (h w).2 with rfl | h
    · have : (rack.claim 6).upgrader = some 1 := by decide +kernel
      obtain rfl : u = 1 := by rw [this] at hu; exact (Option.some.inj hu).symm
      exact ⟨9, by decide +kernel, by decide +kernel⟩
    · rw [h] at hu; cases hu

theorem rack_beneficiaries : BeneficiariesLawful rack := by
  constructor
  · exact rack_records
      (p := fun r c => c.beneficiary = true → c.phase = .waiting ∧ (rack.claim c.window).waitList.head? = some r ∧
        (rack.claim c.window).marker = .inProgress (some c.slot))
      (by decide +kernel) (fun _ h => absurd h (by decide))
  · intro w b hb
    have h : ∀ w, w = 4 ∨ (rack.claim w).marker = .idle := by decide +kernel
    rcases h w with rfl | h
    · have : (rack.claim 4).marker = .inProgress (some 2) := by decide +kernel
      obtain rfl : b = 2 := by rw [this] at hb; cases hb; rfl
      exact ⟨6, by decide +kernel⟩
    · rw [h] at hb; cases hb

theorem rack_windows : WindowsLawful rack := by
  have h1 : ∀ w, ((rack.window w).state = .undefined → rack.window w = WindowRecord.cleared) ∧
      ((rack.window w).state ≠ .undefined → baseInRange (rack.window w).base (rack.window w).sizeCode = true ∧
        (rack.window w).share ≠ .cleared ∧ (rack.window w).grace ≠ 0 ∧ (rack.window w).recallLimit ≠ 0) := by
    decide +kernel
  have h2 : ∀ v w : WindowId, v ≠ w → (rack.window v).isDefined = true → (rack.window w).isDefined = true →
      (rack.window v).past ≤ (rack.window w).first ∨ (rack.window w).past ≤ (rack.window v).first := by
    decide +kernel
  refine ⟨h1, fun v w hvw hv hw addr => ?_⟩
  have := h2 v w hvw hv hw
  simp only [WindowRecord.covers, Bool.and_eq_true, decide_eq_true_eq]
  omega

theorem rack_standing : QueuesLawful rack ∧ FifosLawful rack ∧ RoleLawful rack ∧ SlotsLawful rack ∧ BackplaneLawful rack := by
  have hm : rack.master = some 0 := by decide +kernel
  refine ⟨?_, ?_, ?_, ?_, ?_⟩
  · show ∀ n, _ ∧ _; decide +kernel
  · show ∀ n, _ ∧ _; decide +kernel
  · intro m h
    rw [hm] at h
    obtain rfl := Option.some.inj h
    decide +kernel
  · show ∀ n, _ ∧ _; decide +kernel
  · show _ ∧ _; decide +kernel

/-- A command on its way changes no table, and no law of the tables. -/
theorem claims_give {s : State} (h : ClaimsLawful s) (c : SlotId) (e : CommandEntry) : ClaimsLawful (give s c e) :=
  ⟨h.waitLists, h.pool, h.oneEach, h.holders⟩

theorem recalls_give {s : State} (h : RecallsLawful s) (c : SlotId) (e : CommandEntry) : RecallsLawful (give s c e) := h

theorem settled_give {s : State} (h : PassesSettled s) (c : SlotId) (e : CommandEntry) : PassesSettled (give s c e) := h

theorem mem_holders_of {s : State} {w : WindowId} {l : List RecordId} (h : s.holders w = l) {q : RecordId}
    (hq : s.isHoldOn w q = true) : q ∈ l := h ▸ mem_holders.mpr hq

/-! ### States and operands that meet the statements' hypotheses

One theorem for each statement that has hypotheses, with a case for each clause. -/

theorem witness_IdleStepCountsRefclk :
    rack.pending = [] ∧ { rack with porAsserted := true }.porAsserted = true ∧ rack.porAsserted = false ∧
      { rack with divider := 24998 }.divider + 1 < Config.tickPeriod { rack with divider := 24998 }.tickSelect ∧
      Config.tickPeriod { rack with divider := 24999 }.tickSelect ≤ { rack with divider := 24999 }.divider + 1 := by
  decide +kernel

theorem witness_NothingTakenUnderPowerOnReset :
    { rack with porAsserted := true }.porAsserted = true ∧ (∀ elig, Instr.tick ≠ .powerOnReset elig) ∧
      Instr.tick ≠ .porAsserted ∧ Instr.tick ≠ .cycleEnd ∧ (∀ n, Instr.tick ≠ .presRise n) ∧
      ∀ n, Instr.tick ≠ .presFall n :=
  ⟨rfl, nofun, nofun, nofun, nofun, nofun⟩

theorem witness_BackplaneResetState : rack.porAsserted = false := by decide +kernel

/-- Slots 1 and 7 have commands and the pointer is 6: slot 7 is considered first, then slot 1. -/
theorem witness_ArbiterTakesFirstEligible :
    rack.nextTake = none ∧
      (give (give { rack with pointer := 6 } 1 (entry 2 0 0 0)) 7 (entry 3 0 0 0)).nextTake = some (7, entry 3 0 0 0) ∧
      (give (give { rack with pointer := 7 } 1 (entry 2 0 0 0)) 7 (entry 3 0 0 0)).nextTake = some (1, entry 2 0 0 0) := by
  decide +kernel

theorem witness_TakesAnswerExactlyOnce :
    (give rack 1 (entry 4 3 0 0)).porAsserted = false ∧
      (give rack 1 (entry 4 3 0 0)).nextTake = some (1, entry 4 3 0 0) ∧
      ((.withdraw, (0x04 : BitVec 8)) ∈ takeRows ∧ (entry 4 3 0 0).opcode = 0x04) ∧
      ((.claim, (0x03 : BitVec 8)) ∈ takeRows ∧ (entry 4 3 0 0).opcode ≠ 0x03) := by decide +kernel

theorem witness_RefusalsChangeNothing :
    (releaseCommand 4 (entry 5 0 0 0) rack).2 = Reply.refusal .notActive ∧
      (openCommand 0 (entry 0x12 0 0 0) rack).2.outcome = .ok := by decide +kernel

theorem witness_CommonCheckOrder_opcode : ∀ op ∈ [0x00, 0x0D, 0x0F, 0x1A, 0xFF],
    (give rack 1 (entry op 0 0 0)).nextTake = some (1, entry op 0 0 0) ∧
      ∀ p ∈ takeRows, (entry op 0 0 0).opcode ≠ p.2 := by decide +kernel

/-- Slot 4 is PRESENT, slot 1 ACTIVE without the role, slot 0 the master. -/
theorem witness_CommonCheckOrder_callers :
    (∀ p ∈ takeRows, ∀ c ∈ [(0 : SlotId), 1, 4],
      TakesCommand (give rack c (entry p.2.toNat 0 0 0)) c (entry p.2.toNat 0 0 0) p.2) ∧
    (rack.slot 4).state = .present ∧ (rack.slot 1).state = .active ∧ rack.master ≠ some 1 ∧
    (rack.slot 0).state = .active ∧ rack.master = some 0 := by decide +kernel

/-- Window fields 32 and 255 are out of range; window 31 is in range and UNDEFINED. -/
theorem witness_CommonCheckOrder_windows :
    (∀ p ∈ takeRows, ∀ c ∈ [(0 : SlotId), 1], ∀ v ∈ [31, 32, 255],
      TakesCommand (give rack c (entry p.2.toNat v 0 0)) c (entry p.2.toNat v 0 0) p.2) ∧
    32 ≤ (lowByte (entry 5 32 0 0).param0).toNat ∧ 32 ≤ (lowByte (entry 5 255 0 0).param0).toNat ∧
    NamesWindow (entry 5 31 0 0) 31 ∧ (rack.window 31).state = .undefined := by decide +kernel

/-- Slot fields 8 and 255 are out of range, and 7 is in range; RECALL's counts only with PARAM1 bit 8 set. -/
theorem witness_CommonCheckOrder_slots :
    (∀ v ∈ [8, 255],
      TakesFromActive (give rack 1 (entry 0x09 3 v 0)) 1 (entry 0x09 3 v 0) 0x09 ∧
      TakesFromMaster (give rack 0 (entry 0x15 v 0 0)) 0 (entry 0x15 v 0 0) 0x15 ∧
      TakesFromMaster (give rack 0 (entry 0x16 v 1 0)) 0 (entry 0x16 v 1 0) 0x16 ∧
      TakesFromMaster (give rack 0 (entry 0x19 v 0 0)) 0 (entry 0x19 v 0 0) 0x19 ∧
      TakesFromMaster (give rack 0 (entry 0x14 2 (256 + v) 0)) 0 (entry 0x14 2 (256 + v) 0) 0x14 ∧
      TakesCommand (give rack 4 (entry 0x0B v 0 0)) 4 (entry 0x0B v 0 0) 0x0B ∧
      8 ≤ (lowByte (entry 0x09 3 v 0).param1).toNat ∧ 8 ≤ (lowByte (entry 0x15 v 0 0).param0).toNat ∧
      8 ≤ (lowByte (entry 0x14 2 (256 + v) 0).param1).toNat ∧ (entry 0x14 2 (256 + v) 0).param1.getLsbD 8 = true) ∧
    TakesFromActive (give rack 1 (entry 0x09 31 7 0)) 1 (entry 0x09 31 7 0) 0x09 ∧
    (lowByte (entry 0x09 31 7 0).param1).toNat < 8 ∧ NamesWindow (entry 0x09 31 7 0) 31 ∧
    (rack.slot 4).state ≠ .absent := by decide +kernel

theorem witness_PostingFoldsOrJoins :
    (rack.slot 5).state = .absent ∧ (rack.slot 1).state ≠ .absent ∧ (∀ k ∈ rack.queue 1, k.subject ≠ .role) ∧
      (served.slot 1).state ≠ .absent ∧
      (served.queue 1 = [] ++ { subject := .window 5, body := .granted .exclusive 0x2C, folded := true } ::
        [{ subject := .unmapped, body := .violation .read .unmapped, folded := false }]) ∧
      ((∀ n, ((served.queue n).map Notice.subject).Nodup) ∧ ∃ t, step served = .next t) ∧
      (served.porAsserted = false ∧ ∃ t, exec (.noticePop 1 0) served = .next t) :=
  ⟨by decide +kernel, by decide +kernel, by decide +kernel, by decide +kernel, by decide +kernel,
    ⟨by decide +kernel, _, rfl⟩, by decide +kernel, _, rfl⟩

theorem witness_AttentionFollowsQueue :
    served.porAsserted = false ∧ served.atn 1 = true ∧ rack.atn 1 = false ∧
      { served with porAsserted := true }.porAsserted = true := by decide +kernel

/-- Record 6 waits as a beneficiary, record 3 waits, record 8 is the upgrader's hold. -/
theorem witness_RetiringARecord :
    ((rack.record 6).phase = .waiting ∧ (rack.record 6).beneficiary = true ∧ (rack.record 6).window = 4) ∧
      ((rack.record 3).phase = .waiting ∧ (rack.record 3).window = 3) ∧
      ((rack.record 8).phase ≠ .waiting ∧ (rack.record 8).phase ≠ .free ∧ (rack.record 8).window = 6 ∧
        (rack.claim 6).upgrader = some (rack.record 8).slot) := by decide +kernel

theorem witness_GrantingARecord : (rack.record 3).phase = .waiting ∧ (rack.record 3).window = 3 := by decide +kernel

/-- Window 1 is CLOSED and window 4 under recall. On window 6 the upgrader is blocked, and would be alone without record 9.
On window 3 an EXCLUSIVE head is blocked by the hold, and would be granted without it; a SHARED head would follow. -/
theorem witness_GrantPassSteps :
    (rack.window 1).state ≠ .opened ∧ (rack.claim 4).marker ≠ .idle ∧
    ((rack.retire 9).holders 6 = [8] ∧ ((rack.retire 9).claim 6).upgrader = some 1 ∧
      ((rack.retire 9).record 8).slot = 1 ∧ ((rack.retire 9).window 6).state = .opened ∧
      ((rack.retire 9).claim 6).marker = .idle) ∧
    ((rack.claim 6).upgrader = some 1 ∧ rack.isHoldOn 6 9 = true ∧ (rack.record 9).slot ≠ 1) ∧
    ((rack.claim 2).upgrader = none ∧ (rack.claim 2).waitList = []) ∧
    ((rack.claim 3).upgrader = none ∧ (rack.claim 3).waitList = 3 :: [4] ∧ (rack.record 3).mode = .exclusive ∧
      rack.holders 3 = [2]) ∧
    ((rack.retire 2).holders 3 = [] ∧ ((rack.retire 2).claim 3).waitList = 3 :: [4]) ∧
    (((rack.retire 3).claim 3).waitList = [4] ∧ ((rack.retire 3).record 4).mode = .shared ∧
      (rack.retire 3).isHoldOn 3 2 = true ∧ ((rack.retire 3).record 2).mode = .exclusive) ∧
    ((((rack.retire 3).retire 2).claim 3).waitList = [4] ∧ ((rack.retire 3).retire 2).holders 3 = []) := by
  simp only [holders_fast]
  decide +kernel

/-- On the last clause of the grant pass's step 4: with no hold left, every hold is SHARED. -/
theorem witness_GrantPassSteps_noHolds (q : RecordId) (h : ((rack.retire 3).retire 2).isHoldOn 3 q = true) :
    (((rack.retire 3).retire 2).record q).mode = .shared :=
  absurd (mem_holders_of witness_GrantPassSteps.2.2.2.2.2.2.2.2.2 h) (List.not_mem_nil)

theorem witness_GrantsFromHeadAlone : ClaimsLawful rack := rack_claims

/-- Windows 3 and 5 after their one hold is retired, and window 2 with a hold left. -/
theorem witness_FollowUpsOfRetirement :
    rack.holders 2 ≠ [] ∧ ((rack.retire 2).holders 3 = [] ∧ ((rack.retire 2).window 3).state ≠ .draining) ∧
      (rack.retire 7).holders 5 = [] ∧ ((rack.retire 7).window 5).state = .draining := by
  simp only [holders_fast]
  decide +kernel

theorem witness_ExitRetiresEveryRecord :
    ClaimsLawful rack ∧ (rack.record 127).phase = .free ∧ rack.recordOf 1 5 = none ∧ rack.recordOf 1 3 = some 2 ∧
      (rack.record 7).window = 5 := by
  refine ⟨rack_claims, ?_⟩
  simp only [recordOf_fast]
  decide +kernel

/-- Slot 0 is the master, slot 1 is not. -/
theorem witness_ExitProcessing :
    (rack.slot 0).state = .active ∧ rack.master = some 0 ∧ (rack.slot 1).state = .active ∧ rack.master ≠ some 1 ∧
      ∀ reason ∈ [ExitReason.left, .silent, .evicted, .reset, .removed], reason ≠ .none := by decide +kernel

theorem witness_EventsThatEndParticipation :
    TakesFromActive (give rack 1 (entry 2 0 0 0)) 1 (entry 2 0 0 0) 0x02 ∧
      (∀ v ∈ [0, 1, 3, 4], TakesFromMaster (give rack 0 (entry 0x15 v 0 0)) 0 (entry 0x15 v 0 0) 0x15) ∧
      (NamesSlot (entry 0x15 3 0 0).param0 3 ∧ (3 : SlotId) ≠ 0 ∧ (rack.slot 3).state = .active) ∧
      (NamesSlot (entry 0x15 0 0 0).param0 0 ∧ NamesSlot (entry 0x15 4 0 0).param0 4 ∧ (rack.slot 4).state ≠ .active) ∧
      (let s := rack.setSlot 2 { activeSlot with silence := 1 }
       s.porAsserted = false ∧ s.silenceLimit ≠ 0 ∧ (s.slot 2).state = .active ∧ (s.slot 2).silence = 1) := by
  decide +kernel

theorem witness_JoinMakesSlotActive :
    TakesCommand (give rack 4 (entry 1 7 0x1FF 0)) 4 (entry 1 7 0x1FF 0) 0x01 ∧ (rack.slot 4).state = .present := by
  decide +kernel

/-- Slot 2 is eligible; of slot 1 the second state takes eligibility away. HAND_MASTER to slots 8 and 0 (BAD_PARAM), 4
(PRESENT), 1 (where it is not eligible) and 3. -/
theorem witness_MasterRoleTakenAndHanded :
    (TakesFromActive (give { rack with master := none } 2 (entry 0xC 0 0 0)) 2 (entry 0xC 0 0 0) 0x0C ∧
      rack.eligible.getLsbD 2 = true) ∧
    (TakesFromActive (give rack 2 (entry 0xC 0 0 0)) 2 (entry 0xC 0 0 0) 0x0C ∧ rack.master ≠ none) ∧
    (TakesFromActive (give { rack with master := none, eligible := 0x0D } 1 (entry 0xC 0 0 0)) 1 (entry 0xC 0 0 0) 0x0C ∧
      (0x0D : BitVec 8).getLsbD 1 = false) ∧
    (TakesFromMaster (give rack 0 (entry 0x19 3 0 0)) 0 (entry 0x19 3 0 0) 0x19 ∧
      NamesSlot (entry 0x19 3 0 0).param0 3 ∧ (3 : SlotId) ≠ 0 ∧ (rack.slot 3).state = .active ∧
      rack.eligible.getLsbD 3 = true) ∧
    (∀ v ∈ [0, 4, 8, 255], TakesFromMaster (give rack 0 (entry 0x19 v 0 0)) 0 (entry 0x19 v 0 0) 0x19) ∧
    8 ≤ (lowByte (entry 0x19 8 0 0).param0).toNat ∧ NamesSlot (entry 0x19 0 0 0).param0 0 ∧
    (NamesSlot (entry 0x19 4 0 0).param0 4 ∧ (rack.slot 4).state ≠ .active) ∧
    (TakesFromMaster (give { rack with eligible := 0x0D } 0 (entry 0x19 1 0 0)) 0 (entry 0x19 1 0 0) 0x19 ∧
      NamesSlot (entry 0x19 1 0 0).param0 1 ∧ (1 : SlotId) ≠ 0 ∧ (rack.slot 1).state = .active) := by decide +kernel

/-- Slot 1 has five records: quotas 64 and 5 are accepted and 4 and 1 refused; slot 7 is ABSENT. -/
theorem witness_QuotaAndEligibleSetWritten :
    (∀ x ∈ [(1, 1), (1, 4), (1, 5), (1, 64), (7, 1), (7, 64)],
      TakesFromMaster (give rack 0 (entry 0x16 x.1 x.2 0)) 0 (entry 0x16 x.1 x.2 0) 0x16 ∧
      1 ≤ (lowByte (entry 0x16 x.1 x.2 0).param1).toNat ∧ (lowByte (entry 0x16 x.1 x.2 0).param1).toNat ≤ 64) ∧
    (∀ x ∈ [(8, 1), (255, 64), (1, 0), (1, 65), (1, 255)],
      TakesFromMaster (give rack 0 (entry 0x16 x.1 x.2 0)) 0 (entry 0x16 x.1 x.2 0) 0x16 ∧
      (8 ≤ (lowByte (entry 0x16 x.1 x.2 0).param0).toNat ∨ (lowByte (entry 0x16 x.1 x.2 0).param1).toNat = 0 ∨
        64 < (lowByte (entry 0x16 x.1 x.2 0).param1).toNat)) ∧
    NamesSlot (entry 0x16 1 5 0).param0 1 ∧ NamesSlot (entry 0x16 7 1 0).param0 7 ∧ rack.inUse 1 = 5 ∧
    (∀ v ∈ [0x01, 0xFF, 0xFE, 0x00], TakesFromMaster (give rack 0 (entry 0x17 v 0 0)) 0 (entry 0x17 v 0 0) 0x17) ∧
    (lowByte (entry 0x17 1 0 0).param0).getLsbD 0 = true ∧
    (lowByte (entry 0x17 0xFE 0 0).param0).getLsbD 0 = false := by
  simp only [inUse_fast]
  decide +kernel

theorem witness_SetTimingEffect :
    (∀ select : Fin 4,
      TakesFromMaster (give rack 0 (entry 0x18 select.val 0xFFFF 0)) 0 (entry 0x18 select.val 0xFFFF 0) 0x18 ∧
        (lowByte (entry 0x18 select.val 0xFFFF 0).param0).toNat = select.val) ∧
    ∀ v ∈ [4, 255], TakesFromMaster (give rack 0 (entry 0x18 v 0 0)) 0 (entry 0x18 v 0 0) 0x18 ∧
      4 ≤ (lowByte (entry 0x18 v 0 0).param0).toNat := by decide +kernel

/-- Both views of windows 0 and 31 and of window 4, on which slot 2 is the beneficiary; window 6 has an upgrader. -/
theorem witness_QueriesReportAndChangeNothing_window :
    (rack.slot 2).state ≠ .absent ∧ (rack.slot 4).state ≠ .absent ∧
    (∀ c ∈ [(2 : SlotId), 4], ∀ v ∈ [0x000, 0x01F, 0x100, 0x11F, 0x104, 0x106],
      TakesCommand (give rack c (entry 0xA v 0 0)) c (entry 0xA v 0 0) 0x0A) ∧
    NamesWindow (entry 0xA 0 0 0) 0 ∧ NamesWindow (entry 0xA 0x11F 0 0) 31 ∧ NamesWindow (entry 0xA 0x104 0 0) 4 ∧
    (entry 0xA 0x01F 0 0).param0.getLsbD 8 = false ∧ (entry 0xA 0x11F 0 0).param0.getLsbD 8 = true ∧
    rack.recordOf 4 4 = none ∧ rack.recordOf 2 4 = some 6 ∧ (rack.claim 4).marker = .inProgress (some 2) ∧
    (rack.claim 6).upgrader = some 1 := by
  simp only [recordOf_fast]
  decide +kernel

theorem witness_QueriesReportAndChangeNothing_slot :
    (∀ c ∈ [(0 : SlotId), 2], ∀ v ∈ [0, 2, 7],
      TakesCommand (give rack c (entry 0xB v 0 0)) c (entry 0xB v 0 0) 0x0B) ∧
    NamesSlot (entry 0xB 7 0 0).param0 7 ∧ NamesSlot (entry 0xB 2 0 0).param0 2 ∧ rack.master = some 0 ∧
    rack.master ≠ some 2 := by decide +kernel

/-- The test rack with window 0 EXCLUSIVE_ONLY, and slot 3's quota at its two records. -/
def strict : State :=
  (rack.setWindow 0 { window 0 .opened with share := .exclusiveOnly }).setSlot 3 { activeSlot with quota := 2 }

/-- Every record is slot 0's hold on window 31: the pool is empty. -/
def emptyPool : State := { rack with records := Vector.replicate 128 (claimOf 0 31 .held .shared 0) }

/-- Mode codes 0 and 3 and window 32; slot 0, with no record there, tries window 3, and passes every check on window 0. -/
theorem witness_ClaimChecksInOrder_range_and_try :
    (∀ v ∈ [0x000, 0x300, 0x220, 0x1203, 0x203, 0x200],
      TakesFromActive (give strict 0 (entry 3 v 0 0)) 0 (entry 3 v 0 0) 0x03) ∧
    ((entry 3 0x000 0 0).param0.extractLsb' 8 2 = 0 ∧ (entry 3 0x300 0 0).param0.extractLsb' 8 2 = 3 ∧
      32 ≤ (lowByte (entry 3 0x220 0 0).param0).toNat) ∧
    (NamesWindow (entry 3 0x1203 0 0) 3 ∧ (strict.window 3).state = .opened ∧ strict.holdOf 0 3 = none ∧
      strict.waitingOf 0 3 = none ∧ (entry 3 0x1203 0 0).param0.getLsbD 12 = true ∧
      strict.grantableAtOnce 3 .exclusive = false) ∧
    (strict.inUse 0 < (strict.slot 0).quota ∧ strict.lowestFree = some 11 ∧ strict.holdOf 0 0 = none ∧
      strict.waitingOf 0 0 = none ∧ strict.grantableAtOnce 0 .exclusive = true) := by
  simp only [holdOf_fast, waitingOf_fast, inUse_fast, lowestFree_fast]
  decide +kernel

/-- Window 31 is UNDEFINED and 1 CLOSED; SHARED on EXCLUSIVE_ONLY window 0; slot 1 holds and slot 2 waits; slot 3 is at its
quota; an empty pool. -/
theorem witness_ClaimChecksInOrder :
    (∀ c ∈ [(1 : SlotId), 2, 3], ∀ v ∈ [0x21F, 0x201, 0x200, 0x100, 0x202, 0x203, 0x1203],
      TakesFromActive (give strict c (entry 3 v 0 0)) c (entry 3 v 0 0) 0x03) ∧
    (entry 3 0x21F 0 0).param0.extractLsb' 8 2 = 2 ∧ (entry 3 0x100 0 0).param0.extractLsb' 8 2 = 1 ∧
    (NamesWindow (entry 3 0x21F 0 0) 31 ∧ (strict.window 31).state = .undefined) ∧
    (NamesWindow (entry 3 0x201 0 0) 1 ∧ (strict.window 1).state = .closed) ∧
    (NamesWindow (entry 3 0x100 0 0) 0 ∧ (strict.window 0).state = .opened ∧
      (strict.window 0).share ≠ .sharedAllowed) ∧
    strict.holdOf 1 2 = some 0 ∧ strict.waitingOf 2 3 = some 3 ∧ strict.inUse 3 = 2 ∧ emptyPool.lowestFree = none ∧
    TakesFromActive (give emptyPool 1 (entry 3 0x203 0 0)) 1 (entry 3 0x203 0 0) 0x03 := by
  simp only [holdOf_fast, waitingOf_fast, inUse_fast, lowestFree_fast]
  decide +kernel

/-- Slot 0 claims unheld window 0 (at once) and window 3, where two claims wait already. -/
theorem witness_ClaimTakesARecord :
    (∀ v ∈ [0x200, 0x100, 0x203, 0x103],
      TakesFromActive (give rack 0 (entry 3 v 9 0)) 0 (entry 3 v 9 0) 0x03) ∧
    (entry 3 0x200 9 0).claimMode = some .exclusive ∧ (entry 3 0x103 9 0).claimMode = some .shared ∧
    (entry 3 0x203 9 0).param0.getLsbD 12 = false ∧ NamesWindow (entry 3 0x200 9 0) 0 ∧
    NamesWindow (entry 3 0x203 9 0) 3 ∧ (rack.window 0).state = .opened ∧ (rack.window 3).state = .opened ∧
    (rack.window 3).share = .sharedAllowed ∧ rack.holdOf 0 0 = none ∧ rack.waitingOf 0 0 = none ∧
    rack.holdOf 0 3 = none ∧ rack.waitingOf 0 3 = none ∧ rack.inUse 0 < (rack.slot 0).quota ∧
    rack.lowestFree = some 11 ∧ rack.grantableAtOnce 3 .exclusive = false ∧
    rack.grantableAtOnce 0 .exclusive = true := by
  simp only [holdOf_fast, waitingOf_fast, inUse_fast, lowestFree_fast]
  decide +kernel

theorem witness_ClaimTakesARecord_laws (e : CommandEntry) :
    PassesSettled (give rack 0 e) ∧ WaitListsLawful (give rack 0 e) :=
  ⟨settled_give rack_settled 0 e, (claims_give rack_claims 0 e).waitLists⟩

/-- Slot 2 waits on window 3, slot 1 has a pending upgrade on window 6, slot 3 neither on window 2. -/
theorem witness_WithdrawEffect :
    (TakesFromActive (give rack 2 (entry 4 3 0 0)) 2 (entry 4 3 0 0) 0x04 ∧ NamesWindow (entry 4 3 0 0) 3 ∧
      (rack.window 3).state ≠ .undefined ∧ rack.waitingOf 2 3 = some 3) ∧
    (TakesFromActive (give rack 1 (entry 4 6 0 0)) 1 (entry 4 6 0 0) 0x04 ∧ NamesWindow (entry 4 6 0 0) 6 ∧
      (rack.window 6).state ≠ .undefined ∧ rack.waitingOf 1 6 = none ∧ (rack.claim 6).upgrader = some 1 ∧
      rack.holdOf 1 6 = some 8) ∧
    (TakesFromActive (give rack 3 (entry 4 2 0 0)) 3 (entry 4 2 0 0) 0x04 ∧ NamesWindow (entry 4 2 0 0) 2 ∧
      (rack.window 2).state ≠ .undefined ∧ rack.waitingOf 3 2 = none ∧ (rack.claim 2).upgrader ≠ some 3) := by
  simp only [holdOf_fast, waitingOf_fast]
  decide +kernel

/-- Slot 3 holds nothing on window 2; slot 1's hold on window 4 is RECALLED under a recall, slot 3's on window 5 in a
drain. -/
theorem witness_HoldCommandChecks :
    (∀ p ∈ [(Instr.release, (0x05 : BitVec 8)), (.renew, 0x06), (.upgrade, 0x07), (.downgrade, 0x08), (.transfer, 0x09)],
      TakesFromActive (give rack 3 (entry p.2.toNat 2 7 0)) 3 (entry p.2.toNat 2 7 0) p.2 ∧
      TakesFromActive (give rack 1 (entry p.2.toNat 4 0 0)) 1 (entry p.2.toNat 4 0 0) p.2 ∧
      TakesFromActive (give rack 3 (entry p.2.toNat 5 0 0)) 3 (entry p.2.toNat 5 0 0) p.2) ∧
    (lowByte (entry 9 2 7 0).param1).toNat < 8 ∧ NamesWindow (entry 9 2 7 0) 2 ∧ NamesWindow (entry 9 4 0 0) 4 ∧
    NamesWindow (entry 9 5 0 0) 5 ∧ (∀ w ∈ [(2 : WindowId), 4, 5], (rack.window w).state ≠ .undefined) ∧
    rack.holdOf 3 2 = none ∧ rack.holdOf 1 4 = some 5 ∧ (rack.record 5).phase = .recalled ∧
    (rack.claim 4).marker ≠ .idle ∧ rack.holdOf 3 5 = some 7 ∧ (rack.record 7).phase = .recalled ∧
    (rack.claim 5).marker = .idle := by
  simp only [holdOf_fast]
  decide +kernel

theorem witness_ReleaseEffect :
    TakesOnHold (give rack 1 (entry 5 3 0 0)) 1 (entry 5 3 0 0) 0x05 3 2 ∧
      TakesOnHold (give rack 3 (entry 5 5 0 0)) 3 (entry 5 5 0 0) 0x05 5 7 := by
  simp only [TakesOnHold, holdOf_fast]
  decide +kernel

theorem witness_RenewEffect :
    TakesOnHold (give rack 2 (entry 6 2 0 0)) 2 (entry 6 2 0 0) 0x06 2 1 ∧ (rack.record 1).phase ≠ .recalled := by
  simp only [TakesOnHold, holdOf_fast]
  decide +kernel

/-- Slot 1 on windows 3 (EXCLUSIVE), 8 (sole SHARED holder), 2 (one of two) and 6 (pending already); slot 2 on window 6. -/
theorem witness_UpgradeEffect :
    (TakesOnHold (give rack 1 (entry 7 3 0 0)) 1 (entry 7 3 0 0) 0x07 3 2 ∧ (rack.record 2).mode = .exclusive) ∧
    (TakesOnHold (give rack 2 (entry 7 6 0 0)) 2 (entry 7 6 0 0) 0x07 6 9 ∧ (rack.record 9).mode = .shared ∧
      (rack.claim 6).upgrader = some 1 ∧ (1 : SlotId) ≠ 2) ∧
    (TakesOnHold (give rack 1 (entry 7 8 0 0)) 1 (entry 7 8 0 0) 0x07 8 10 ∧ (rack.record 10).mode = .shared ∧
      (rack.claim 8).upgrader = none ∧ rack.holders 8 = [10]) ∧
    (TakesOnHold (give rack 1 (entry 7 2 0 0)) 1 (entry 7 2 0 0) 0x07 2 0 ∧ (rack.record 0).mode = .shared ∧
      (rack.claim 2).upgrader = none ∧ rack.holders 2 ≠ [0]) ∧
    (TakesOnHold (give rack 1 (entry 7 6 0 0)) 1 (entry 7 6 0 0) 0x07 6 8 ∧ (rack.record 8).mode = .shared ∧
      rack.holders 6 ≠ [8]) ∧
    ∀ r ∈ [(2 : RecordId), 9, 10, 0, 8], (rack.record r).phase ≠ .recalled := by
  simp only [TakesOnHold, holdOf_fast, holders_fast]
  refine ⟨?_, ?_, ?_, ?_, ?_, ?_⟩ <;> decide +kernel

/-- The test rack with window 3 EXCLUSIVE_ONLY. -/
def exclusiveOnly3 : State := rack.setWindow 3 { window 3 .opened with share := .exclusiveOnly }

theorem witness_DowngradeEffect :
    (TakesOnHold (give rack 1 (entry 8 2 0 0)) 1 (entry 8 2 0 0) 0x08 2 0 ∧ (rack.record 0).mode = .shared ∧
      (rack.record 0).phase ≠ .recalled) ∧
    (TakesOnHold (give exclusiveOnly3 1 (entry 8 3 0 0)) 1 (entry 8 3 0 0) 0x08 3 2 ∧
      (exclusiveOnly3.record 2).mode = .exclusive ∧ (exclusiveOnly3.window 3).share ≠ .sharedAllowed) ∧
    (TakesOnHold (give rack 1 (entry 8 3 0 0)) 1 (entry 8 3 0 0) 0x08 3 2 ∧ (rack.record 2).mode = .exclusive ∧
      (rack.record 2).phase ≠ .recalled ∧ (rack.window 3).share = .sharedAllowed) := by
  simp only [TakesOnHold, holdOf_fast]
  decide +kernel

/-- Slot 2 waits EXCLUSIVE on window 3, slot 3 SHARED, and slots 0 and 7 not at all. -/
theorem witness_TransferEffect :
    (TakesOnHold (give rack 1 (entry 9 2 7 0)) 1 (entry 9 2 7 0) 0x09 2 0 ∧ NamesSlot (entry 9 2 7 0).param1 7 ∧
      (rack.record 0).mode = .shared ∧ (rack.claim 2).marker = .idle) ∧
    (∀ v ∈ [0, 2, 3, 7], TakesFromActive (give rack 1 (entry 9 3 v 0)) 1 (entry 9 3 v 0) 0x09) ∧
    rack.holdOf 1 3 = some 2 ∧ (rack.record 2).mode = .exclusive ∧ (rack.record 2).phase ≠ .recalled ∧
    (rack.claim 3).marker = .idle ∧ NamesSlot (entry 9 3 2 0).param1 2 ∧ rack.waitingOf 2 3 = some 3 ∧
    (rack.record 3).mode = .exclusive ∧ rack.waitingOf 3 3 = some 4 ∧ (rack.record 4).mode = .shared ∧
    rack.waitingOf 7 3 = none := by
  simp only [TakesOnHold, holdOf_fast, waitingOf_fast]
  decide +kernel

/-- A definition of 4 KiB at 7FFF_F000h on window 31, one of 64 MiB at 4400_0000h on CLOSED window 1, one over window 0,
and one on OPEN window 0. -/
theorem witness_DefineWritesDefinition :
    (∀ x ∈ [(0x1001F, 0x7FFFF000), (0x24E01, 0x44000000), (0x10402, 0x40000000), (0x10407, 0x40000000), (0x10400, 0x40000000)],
      TakesFromMaster (give rack 0 (entry 0x10 x.1 x.2 0x01010000)) 0 (entry 0x10 x.1 x.2 0x01010000) 0x10 ∧
      (entry 0x10 x.1 x.2 0x01010000).defineSize.isSome = true ∧
      (entry 0x10 x.1 x.2 0x01010000).defineTarget.isSome = true ∧
      (entry 0x10 x.1 x.2 0x01010000).defineShare.isSome = true ∧
      (entry 0x10 x.1 x.2 0x01010000).defineForeign.isSome = true ∧
      0x40000000 ≤ (entry 0x10 x.1 x.2 0x01010000).param1.toNat ∧
      (entry 0x10 x.1 x.2 0x01010000).param1.toNat < 0x80000000 ∧
      (entry 0x10 x.1 x.2 0x01010000).param1.toNat % (4096 * 2 ^ ((x.1 / 256) % 16)) = 0 ∧
      (entry 0x10 x.1 x.2 0x01010000).param2.extractLsb' 16 8 ≠ 0 ∧
      (entry 0x10 x.1 x.2 0x01010000).param2.extractLsb' 24 8 ≠ 0) ∧
    (entry 0x10 0x24E01 0 0).defineSize = some 14 ∧ (entry 0x10 0x1001F 0 0).defineSize = some 0 ∧
    NamesWindow (entry 0x10 0x1001F 0 0) 31 ∧ (rack.window 31).state = .undefined ∧
    (∀ v : WindowId, v ≠ 31 → (rack.window v).state ≠ .undefined →
      (rack.window v).base.toNat + 4096 * 2 ^ (rack.window v).sizeCode.val ≤ 0x7FFFF000 ∨
        0x7FFFF000 + 4096 * 2 ^ 0 ≤ (rack.window v).base.toNat) ∧
    (rack.window 1).state = .closed ∧ (rack.window 0).state = .opened ∧
    (0x40000000 < (rack.window 0).base.toNat + 4096 * 2 ^ (rack.window 0).sizeCode.val ∧
      (rack.window 0).base.toNat < 0x40000000 + 4096 * 2 ^ 4) := by decide +kernel

/-- One definition for each range: window 32; size code 15; targets 6 and 7; share codes 0 and 3; foreign code 3; a base
below, above and off its size's boundary; grace 0 and recall limit 0. -/
theorem witness_DefineWritesDefinition_ranges :
    ∀ x ∈ [(0x10020, 0x40000000, 0x01010000), (0x10F1F, 0x40000000, 0x01010000), (0x1601F, 0x40000000, 0x01010000),
        (0x1701F, 0x40000000, 0x01010000), (0x0001F, 0x40000000, 0x01010000), (0x3001F, 0x40000000, 0x01010000),
        (0xD001F, 0x40000000, 0x01010000), (0x1001F, 0x3FFFF000, 0x01010000), (0x1001F, 0x80000000, 0x01010000),
        (0x1011F, 0x40001000, 0x01010000), (0x1001F, 0x40000000, 0x01000000), (0x1001F, 0x40000000, 0x00010000)],
      TakesFromMaster (give rack 0 (entry 0x10 x.1 x.2.1 x.2.2)) 0 (entry 0x10 x.1 x.2.1 x.2.2) 0x10 ∧
      (32 ≤ (lowByte (entry 0x10 x.1 0 0).param0).toNat ∨ (entry 0x10 x.1 0 0).param0.extractLsb' 8 4 = 15 ∨
        6 ≤ ((entry 0x10 x.1 0 0).param0.extractLsb' 12 3).toNat ∨ (entry 0x10 x.1 0 0).param0.extractLsb' 16 2 = 0 ∨
        (entry 0x10 x.1 0 0).param0.extractLsb' 16 2 = 3 ∨ (entry 0x10 x.1 0 0).param0.extractLsb' 18 2 = 3 ∨
        x.2.1 < 0x40000000 ∨ 0x80000000 ≤ x.2.1 ∨
        x.2.1 % (4096 * 2 ^ ((entry 0x10 x.1 0 0).param0.extractLsb' 8 4).toNat) ≠ 0 ∨
        (entry 0x10 0 0 x.2.2).param2.extractLsb' 16 8 = 0 ∨ (entry 0x10 0 0 x.2.2).param2.extractLsb' 24 8 = 0) := by
  decide +kernel

theorem witness_UndefineAndOpenEffect :
    (∀ w : WindowId, w ∈ [(0 : WindowId), 1, 5] →
      NamesWindow (entry 0x11 w.val 0 0) w ∧ NamesWindow (entry 0x12 w.val 0 0) w ∧
      TakesFromMaster (give rack 0 (entry 0x11 w.val 0 0)) 0 (entry 0x11 w.val 0 0) 0x11 ∧
      TakesFromMaster (give rack 0 (entry 0x12 w.val 0 0)) 0 (entry 0x12 w.val 0 0) 0x12) ∧
    (rack.window 0).state = .opened ∧ (rack.window 5).state = .draining ∧ (rack.window 1).state = .closed ∧
    (rack.claim 1).waitList = [] ∧ (rack.claim 1).upgrader = none := by decide +kernel

/-- CLOSE of windows 1 (CLOSED), 0 (OPEN, unheld) and 3 (held, with waiters). -/
theorem witness_CloseEffect :
    (∀ e, ClaimsLawful (give rack 0 e)) ∧
    (∀ w ∈ [(1 : WindowId), 0, 3],
      TakesFromMaster (give rack 0 (entry 0x13 w.val 0 0)) 0 (entry 0x13 w.val 0 0) 0x13 ∧
      NamesWindow (entry 0x13 w.val 0 0) w ∧ (rack.window w).state ≠ .undefined) ∧
    (rack.window 1).state ≠ .opened ∧
    ((rack.window 0).state = .opened ∧ rack.holders 0 = [] ∧ (rack.claim 0).waitList = []) ∧
    ((rack.window 3).state = .opened ∧ rack.holders 3 ≠ []) := by
  refine ⟨claims_give rack_claims 0, ?_⟩
  simp only [holders_fast]
  decide +kernel

/-- RECALL of windows 31 (UNDEFINED), 1 (CLOSED), 4 (under recall) and 2, with beneficiaries 5 (ABSENT), 1 (a holder), 3 (at
its quota in `strict`), and with an empty pool. -/
theorem witness_RecallChecksInOrder :
    (∀ x ∈ [(31, 0), (1, 0), (4, 0), (2, 0x105), (2, 0x101), (2, 0x103)],
      TakesFromMaster (give strict 0 (entry 0x14 x.1 x.2 0)) 0 (entry 0x14 x.1 x.2 0) 0x14) ∧
    NamesWindow (entry 0x14 31 0 0) 31 ∧ NamesWindow (entry 0x14 2 0x105 0) 2 ∧
    ((entry 0x14 4 0 0).param1.getLsbD 8 = true ↔ (none : Option SlotId) ≠ none) ∧
    ((entry 0x14 2 0x105 0).param1.getLsbD 8 = true ↔ some (5 : SlotId) ≠ none) ∧
    NamesSlot (entry 0x14 2 0x105 0).param1 5 ∧ NamesSlot (entry 0x14 2 0x101 0).param1 1 ∧
    NamesSlot (entry 0x14 2 0x103 0).param1 3 ∧ (strict.window 31).state = .undefined ∧
    (strict.window 1).state = .closed ∧ (strict.claim 4).marker ≠ .idle ∧ (strict.slot 5).state ≠ .active ∧
    strict.holdOf 1 2 ≠ none ∧ strict.waitingOf 3 2 = none ∧ (strict.slot 3).quota ≤ strict.inUse 3 ∧
    emptyPool.lowestFree = none ∧
    TakesFromMaster (give emptyPool 0 (entry 0x14 2 0x103 0)) 0 (entry 0x14 2 0x103 0) 0x14 := by
  simp only [holdOf_fast, waitingOf_fast, inUse_fast, lowestFree_fast]
  refine ⟨?_, ?_⟩ <;> decide +kernel

/-- RECALL of window 3 without a beneficiary, for slot 2, which waits there with record 3, and for slot 0, which does not
wait. -/
theorem witness_RecallOfHeldWindow :
    (∀ e, ClaimsLawful (give rack 0 e) ∧ RecallsLawful (give rack 0 e)) ∧
    (∀ v ∈ [0x000, 0x102, 0x100], TakesFromMaster (give rack 0 (entry 0x14 3 v 0)) 0 (entry 0x14 3 v 0) 0x14) ∧
    NamesWindow (entry 0x14 3 0 0) 3 ∧ (rack.window 3).state = .opened ∧ (rack.claim 3).marker = .idle ∧
    rack.holders 3 ≠ [] ∧ (entry 0x14 3 0 0).param1.getLsbD 8 = false ∧
    ((entry 0x14 3 0x102 0).param1.getLsbD 8 = true ∧ NamesSlot (entry 0x14 3 0x102 0).param1 2 ∧
      (rack.slot 2).state = .active ∧ rack.holdOf 2 3 = none ∧ rack.waitingOf 2 3 = some 3) ∧
    (NamesSlot (entry 0x14 3 0x100 0).param1 0 ∧ (rack.slot 0).state = .active ∧ rack.holdOf 0 3 = none ∧
      rack.waitingOf 0 3 = none ∧ rack.inUse 0 < (rack.slot 0).quota ∧ rack.lowestFree = some 11) := by
  refine ⟨fun e => ⟨claims_give rack_claims 0 e, recalls_give rack_recalls 0 e⟩, ?_⟩
  simp only [holders_fast, holdOf_fast, waitingOf_fast, inUse_fast, lowestFree_fast]
  decide +kernel

theorem witness_RecallOfUnheldWindow :
    (∀ v ∈ [0x000, 0x103], TakesFromMaster (give rack 0 (entry 0x14 0 v 0)) 0 (entry 0x14 0 v 0) 0x14) ∧
    NamesWindow (entry 0x14 0 0 0) 0 ∧ (rack.window 0).state = .opened ∧ (rack.claim 0).marker = .idle ∧
    rack.holders 0 = [] ∧ (rack.claim 0).waitList = [] ∧ (rack.claim 0).upgrader = none ∧
    (entry 0x14 0 0 0).param1.getLsbD 8 = false ∧ (entry 0x14 0 0x103 0).param1.getLsbD 8 = true ∧
    NamesSlot (entry 0x14 0 0x103 0).param1 3 ∧ (rack.slot 3).state = .active ∧ rack.waitingOf 3 0 = none ∧
    rack.inUse 3 < (rack.slot 3).quota ∧ rack.lowestFree = some 11 := by
  simp only [holders_fast, waitingOf_fast, inUse_fast, lowestFree_fast]
  decide +kernel

/-- Slot 1 of `served` has two notices and two responses; slot 4's port is empty. -/
theorem witness_PortPopsReadsAndEnable :
    served.porAsserted = false ∧ (served.slot 1).state ≠ .absent ∧ (served.slot 4).state ≠ .absent ∧
      served.queue 4 = [] ∧
      served.queue 1 = { subject := .window 5, body := .granted .exclusive 0x2C, folded := true } ::
        [{ subject := .unmapped, body := .violation .read .unmapped, folded := false }] := by decide +kernel

/-- Slot 5 is ABSENT; slot 1's command FIFO has room, and in the second state none. -/
theorem witness_ControlBlockWrites :
    rack.porAsserted = false ∧ inControlBlock 0x4A00 = true ∧ inControlBlock 0x4A3F = true ∧
      inControlBlock 0x49FF = false ∧ inControlBlock 0x4A40 = false ∧ (rack.slot 5).state = .absent ∧
      (rack.slot 1).state ≠ .absent ∧ (0x4A3F : Word).toNat % 4 ≠ 0 ∧ (16 : Nat) ≠ 32 ∧
      (rack.port 1).commands.length < 4 ∧
      4 ≤ ((rack.setPort 1 { rack.port 1 with commands := List.replicate 4 (entry 2 0 0 0) }).port 1).commands.length := by
  decide +kernel

theorem witness_ControlBlockReads :
    served.porAsserted = false ∧ (∀ i : Fin 16, inControlBlock (BitVec.ofNat 32 (0x4A00 + 4 * i.val)) = true) ∧
      (served.slot 1).state ≠ .absent ∧ (served.slot 5).state = .absent ∧
      (served.port 1).responses = { tag := 1, opcode := 2, outcome := .ok, ext := 0, word1 := 5, word2 := 0 } ::
        [{ tag := 9, opcode := 3, outcome := .queued, ext := 0, word1 := 6, word2 := 0 }] ∧
      (served.port 2).responses = [] := by decide +kernel

/-- The lowest and the highest address of window 0 decode to it, the one below is outside the shared space, and the
highest shared address is UNMAPPED. -/
theorem witness_AddressDecode :
    WindowsLawful rack ∧ rack.decodeAddress 0x40000000 = some 0 ∧ rack.decodeAddress 0x4000FFFF = some 0 ∧
      rack.decodeAddress 0x40010000 = some 1 ∧ rack.decodeAddress 0x7FFFFFFF = none ∧
      inSharedSpace 0x3FFFFFFF = false ∧ inSharedSpace 0x40000000 = true ∧ inSharedSpace 0x7FFFFFFF = true ∧
      inSharedSpace 0x80000000 = false :=
  ⟨rack_windows, by decide +kernel⟩

/-- The test rack with window 8's foreign policy HOLDOFF and window 0's READ_THROUGH. -/
def openRack : State :=
  (rack.setWindow 8 { window 8 .opened with foreign := .holdoff }).setWindow 0
    { window 0 .opened with foreign := .readThrough }

/-- Each of the six tests: slot 4 is not ACTIVE; an UNMAPPED address; CLOSED window 1; slot 1's EXCLUSIVE hold on window 3
and its SHARED hold on window 2; no hold on windows 3, 8 and 0. -/
theorem witness_CycleDecidedByTests :
    openRack.porAsserted = false ∧ inSharedSpace 0x40030000 = true ∧ (openRack.slot 4).state ≠ .active ∧
      (openRack.slot 1).state = .active ∧ openRack.decodeAddress 0x7FFFFFFF = none ∧
      (openRack.decodeAddress 0x40010000 = some 1 ∧ (openRack.window 1).state = .closed) ∧
      (openRack.decodeAddress 0x40030000 = some 3 ∧ (openRack.window 3).state ≠ .closed ∧
        openRack.holdOf 1 3 = some 2 ∧ (openRack.record 2).mode = .exclusive ∧ openRack.holdOf 0 3 = none ∧
        (openRack.window 3).foreign = .refuse) ∧
      (openRack.decodeAddress 0x40020000 = some 2 ∧ (openRack.window 2).state ≠ .closed ∧
        openRack.holdOf 1 2 = some 0 ∧ (openRack.record 0).mode = .shared) ∧
      (openRack.decodeAddress 0x40080000 = some 8 ∧ (openRack.window 8).state ≠ .closed ∧
        openRack.holdOf 0 8 = none ∧ (openRack.window 8).foreign = .holdoff) ∧
      (openRack.decodeAddress 0x40000000 = some 0 ∧ (openRack.window 0).state ≠ .closed ∧
        openRack.holdOf 0 0 = none ∧ (openRack.window 0).foreign = .readThrough) := by
  simp only [holdOf_fast]
  decide +kernel

/-- A pass that renews (slot 2's LAPSING hold on window 2), a refusal and a hold-off. -/
theorem witness_CycleEffects :
    openRack.porAsserted = false ∧ inSharedSpace 0x40020000 = true ∧
      (run (.cycleCheck 2 0x40020000 .read 32) openRack).inHand = some (.pass 2) ∧ openRack.holdOf 2 2 = some 1 ∧
      (openRack.window 2).renewOnAccess = true ∧ (openRack.record 1).phase ≠ .recalled ∧
      (run (.cycleCheck 2 0x40020000 .write 32) openRack).inHand = some .refuse ∧
      (run (.cycleCheck 2 0x40080000 .read 32) openRack).inHand = some .holdOff := by
  simp only [holdOf_fast]
  decide +kernel

theorem witness_WritesPassForExclusiveHolderAlone :
    rack.porAsserted = false ∧ inSharedSpace 0x4003FFFF = true ∧
      (exec (.cycleCheck 1 0x4003FFFF .write 8) rack = .next (run (.cycleCheck 1 0x4003FFFF .write 8) rack) ∧
        (run (.cycleCheck 1 0x4003FFFF .write 8) rack).inHand = some (.pass 2)) ∧
      HoldersLawful rack ∧ rack.decodeAddress 0x4003FFFF = some 3 :=
  ⟨by decide +kernel, by decide, ⟨rfl, by decide +kernel⟩, rack_claims.holders, by decide +kernel⟩

theorem witness_TickIsIssuedToBothTables : rack.porAsserted = false := by decide +kernel

/-- Window 3 with its lease at 1: the record runs out and is a hold that does not retire; window 4 with the recall limit at
1: it retires. -/
theorem witness_TickAtTheClaimTable :
    rack.porAsserted = false ∧ ClaimsLawful rack ∧ { rack with claimTicksDue := 0 }.claimTicksDue = 0 ∧
      rack.claimTicksDue = 0 + 1 ∧
      ((rack.setPhase 2 .held 1).record 2).counter = 1 ∧ ((rack.setPhase 2 .held 1).record 2).window = 3 ∧
      ((rack.setPhase 5 .recalled 1).record 5).runsOut = true :=
  ⟨by decide +kernel, rack_claims, by decide +kernel⟩

theorem witness_TickAtTheSlotTable :
    rack.porAsserted = false ∧ { rack with slotTicksDue := 0 }.slotTicksDue = 0 ∧ rack.slotTicksDue = 0 + 1 ∧
      { rack with silenceLimit := 0 }.silenceLimit = 0 ∧ rack.silenceLimit ≠ 0 ∧
      (rack.slot 4).state ≠ .active ∧
      (let s := rack.setSlot 2 { activeSlot with silence := 1 }
       (s.slot 2).state = .active ∧ (s.slot 2).silence = 1) ∧
      ∀ n, (rack.slot n).state = .active → 1 < (rack.slot n).silence.toNat := by decide +kernel

theorem witness_RecordsRunOut :
    (∀ x ∈ [((3 : RecordId), ClaimPhase.waiting), (1, .lapsing), (7, .recalled), (2, .held)],
      (((rack.setPhase x.1 x.2 1).porAsserted = false ∧ ((rack.setPhase x.1 x.2 1).record x.1).counter = 1) ∧
        ((rack.setPhase x.1 x.2 1).record x.1).phase = x.2)) ∧
      (rack.record 3).slot = 2 ∧ (rack.record 3).window = 3 := by decide +kernel

theorem witness_PresenceAndSlotResetLines :
    rack.porAsserted = false ∧ (rack.slot 5).state = .absent ∧ (rack.slot 4).state = .present := by decide +kernel

/-- The test rack with a command waiting to be run. -/
def waiting (i : Instr) : State := { rack with pending := [i] }

theorem witness_StandingLawsKept :
    QueuesLawful rack ∧ FifosLawful rack ∧ RoleLawful rack ∧ SlotsLawful rack ∧ BackplaneLawful rack ∧
      ∃ t, step (waiting .slotTableTick) = .next t :=
  ⟨rack_standing.1, rack_standing.2.1, rack_standing.2.2.1, rack_standing.2.2.2.1, rack_standing.2.2.2.2, _, rfl⟩

theorem waiting_claims (i : Instr) : ClaimsLawful (waiting i) :=
  ⟨rack_claims.waitLists, rack_claims.pool, rack_claims.oneEach, rack_claims.holders⟩

theorem witness_WindowsNeverOverlap : WindowsLawful (waiting .define) ∧ ∃ t, step (waiting .define) = .next t :=
  ⟨rack_windows, _, rfl⟩

theorem witness_ClaimTableLawsKept :
    ClaimsLawful (waiting .claimTableTick) ∧ QuotasLawful (waiting .claimTableTick) ∧
      ∃ t, step (waiting .claimTableTick) = .next t :=
  ⟨waiting_claims _, rack_quotas, _, rfl⟩

theorem witness_RecordsStayPlaced :
    WindowsLawful (waiting .claimTableTick) ∧ ClaimsLawful (waiting .claimTableTick) ∧
      RecordsPlaced (waiting .claimTableTick) ∧ CountersLawful (waiting .claimTableTick) ∧
      ∃ t, step (waiting .claimTableTick) = .next t :=
  ⟨rack_windows, waiting_claims _, rack_placed, rack_counters, _, rfl⟩

theorem witness_UpgradesAndRecallsStayLawful :
    ClaimsLawful (waiting .claimTableTick) ∧ RecordsPlaced (waiting .claimTableTick) ∧
      UpgradersLawful (waiting .claimTableTick) ∧ RecallsLawful (waiting .claimTableTick) ∧
      ∃ t, step (waiting .claimTableTick) = .next t :=
  ⟨waiting_claims _, rack_placed, rack_upgraders, rack_recalls, _, rfl⟩

theorem witness_NoGrantableWaiterIsLeft :
    ClaimsLawful (waiting .claimTableTick) ∧ RecordsPlaced (waiting .claimTableTick) ∧
      UpgradersLawful (waiting .claimTableTick) ∧ RecallsLawful (waiting .claimTableTick) ∧
      PassesSettled (waiting .claimTableTick) ∧ ∃ t, step (waiting .claimTableTick) = .next t :=
  ⟨waiting_claims _, rack_placed, rack_upgraders, rack_recalls, rack_settled, _, rfl⟩

theorem witness_BeneficiaryStandsAtTheHead :
    ClaimsLawful (waiting .claimTableTick) ∧ RecordsPlaced (waiting .claimTableTick) ∧
      UpgradersLawful (waiting .claimTableTick) ∧ RecallsLawful (waiting .claimTableTick) ∧
      PassesSettled (waiting .claimTableTick) ∧ BeneficiariesLawful (waiting .claimTableTick) ∧
      ∃ t, step (waiting .claimTableTick) = .next t :=
  ⟨waiting_claims _, rack_placed, rack_upgraders, rack_recalls, rack_settled, rack_beneficiaries, _, rfl⟩

end Sys2Proof.Tests
end

section
/-! SUPPORT. Proofs/WindowLaw.lean: what each operation does to the Window Table, and that every step keeps its law. -/

namespace Sys2Proof.Machine

/-! ### Changes of a window record that keep the law -/

/-- A window record after a change other than DEFINE's: zeroed, or with its definition kept and still defined, or still
UNDEFINED, as it was. -/
def WindowRecord.KeptAs (d d' : WindowRecord) : Prop :=
  d' = .cleared ∨ ∃ x, (x = .undefined ↔ d.state = .undefined) ∧ d' = { d with state := x }

theorem WindowRecord.KeptAs.refl (d : WindowRecord) : d.KeptAs d := .inr ⟨d.state, .rfl, rfl⟩

/-- A defined window stays within the law under every change of state but to UNDEFINED. -/
theorem WindowRecord.KeptAs.of_state {d : WindowRecord} {x : WindowState} (hd : d.state ≠ .undefined)
    (hx : x ≠ .undefined) : d.KeptAs { d with state := x } :=
  .inr ⟨x, ⟨fun h => absurd h hx, fun h => absurd h hd⟩, rfl⟩

@[simp] theorem WindowRecord.isDefined_iff {d : WindowRecord} : d.isDefined = true ↔ d.state ≠ .undefined :=
  decide_eq_true_iff

theorem WindowRecord.cleared_lawful : WindowRecord.cleared.lawful := ⟨fun _ => rfl, fun h => absurd rfl h⟩

theorem WindowRecord.KeptAs.lawful {d d' : WindowRecord} (h : d.KeptAs d') (hd : d.lawful) : d'.lawful := by
  obtain rfl | ⟨x, hx, rfl⟩ := h
  · exact cleared_lawful
  · exact ⟨fun (h : x = .undefined) => by rw [hd.1 (hx.mp h), h]; rfl, fun h => hd.2 (mt hx.mpr h)⟩

/-- A window that is defined after the change was defined before it, with the same extent. -/
theorem WindowRecord.KeptAs.extent {d d' : WindowRecord} (h : d.KeptAs d') (hd : d'.isDefined = true) :
    d.isDefined = true ∧ ∀ addr, d'.covers addr = d.covers addr := by
  obtain rfl | ⟨x, hx, rfl⟩ := h
  · simp [WindowRecord.cleared] at hd
  · exact ⟨by simpa [hx] using hd, fun _ => rfl⟩

/-- The law of the Window Table survives any changes of this kind. -/
theorem WindowsLawful.of_kept {s t : State} (h : WindowsLawful s) (k : ∀ w, (s.window w).KeptAs (t.window w)) :
    WindowsLawful t := by
  obtain ⟨hlaw, hdisj⟩ := h
  refine ⟨fun w => (k w).lawful (hlaw w), fun v w hne hv hw addr => ?_⟩
  obtain ⟨hv', cv⟩ := (k v).extent hv
  obtain ⟨hw', cw⟩ := (k w).extent hw
  simpa only [cv, cw] using hdisj v w hne hv' hw' addr

theorem WindowsLawful.of_windows {s t : State} (h : WindowsLawful s) (k : t.windows = s.windows) : WindowsLawful t :=
  h.of_kept fun w => by simpa only [State.window, k] using WindowRecord.KeptAs.refl _

theorem WindowsLawful.setWindow {s : State} (h : WindowsLawful s) {w : WindowId} {x : WindowRecord}
    (k : (s.window w).KeptAs x) : WindowsLawful (s.setWindow w x) :=
  h.of_kept fun v => by
    by_cases hv : v = w
    · simpa [hv] using k
    · simpa [hv] using WindowRecord.KeptAs.refl _

/-! ### DEFINE's definition -/

/-- Two extents that contain one address overlap (R8). -/
theorem WindowRecord.overlaps_of_covers {d d' : WindowRecord} {addr : Word} (h : d.covers addr = true)
    (h' : d'.covers addr = true) : d.overlaps d' = true := by
  simp only [covers, overlaps, Bool.and_eq_true, decide_eq_true_eq] at *
  omega

/-- No other defined window overlaps the extent (R8). -/
theorem overlapsOther_eq_false {s : State} {w : WindowId} {d : WindowRecord} :
    s.overlapsOther w d = false ↔
      ∀ v, v ≠ w → (s.window v).isDefined = true → d.overlaps (s.window v) = false := by
  simp [State.overlapsOther, mem_allWindows]

/-- A lawful definition that overlaps no other defined window may be written (R6, R8). -/
theorem WindowsLawful.setWindow_define {s : State} (h : WindowsLawful s) {w : WindowId} {d : WindowRecord}
    (hd : d.lawful) (hover : s.overlapsOther w d = false) : WindowsLawful (s.setWindow w d) := by
  obtain ⟨hlaw, hdisj⟩ := h
  have apart : ∀ v, v ≠ w → (s.window v).isDefined = true → ∀ addr,
      ¬(d.covers addr = true ∧ (s.window v).covers addr = true) := fun v hv hdef addr hc => by
    have := overlapsOther_eq_false.mp hover v hv hdef
    simp [WindowRecord.overlaps_of_covers hc.1 hc.2] at this
  refine ⟨fun v => ?_, fun u v huv hu hv addr => ?_⟩
  · by_cases hv : v = w <;> simp [hv, hd, hlaw]
  · by_cases hu' : u = w
    · subst hu'
      have hne : v ≠ u := huv.symm
      simp only [State.window_setWindow, hne, if_true, if_false] at hv ⊢
      exact apart v hne hv addr
    · by_cases hv' : v = w
      · subst hv'
        simp only [State.window_setWindow, huv, if_true, if_false] at hu ⊢
        exact fun hc => apart u huv hu addr hc.symm
      · simp only [State.window_setWindow, hu', hv', if_false] at hu hv ⊢
        exact hdisj u v huv hu hv addr

theorem defineShare_ne_cleared {e : CommandEntry} {x : SharePolicy} (h : e.defineShare = some x) : x ≠ .cleared := by
  unfold CommandEntry.defineShare at h
  split at h <;> simp at h <;> simp [← h]

/-- The record that DEFINE writes, field by field, where every field is in range (R6, R7). -/
theorem definition_of_fields {e : CommandEntry} {size : SizeCode} {target : TargetId} {share : SharePolicy}
    {foreign : ForeignPolicy} (hsize : e.defineSize = some size) (htarget : e.defineTarget = some target)
    (hshare : e.defineShare = some share) (hforeign : e.defineForeign = some foreign)
    (hbase : baseInRange e.param1 size = true) (hgrace : e.param2.extractLsb' 16 8 ≠ 0)
    (hlimit : e.param2.extractLsb' 24 8 ≠ 0) :
    e.definition = some
      { state := .closed, base := e.param1, sizeCode := size, target := target, share := share, foreign := foreign,
        renewOnAccess := flagBit e.param0 20, lease := e.param2.extractLsb' 0 16, grace := e.param2.extractLsb' 16 8,
        recallLimit := e.param2.extractLsb' 24 8 } := by
  simp only [CommandEntry.definition, hsize, htarget, hshare, hforeign]
  exact if_pos ⟨hbase, hgrace, hlimit⟩

/-- Where DEFINE has a record to write, every field is in range (R6, R7). -/
theorem fields_of_definition {e : CommandEntry} {d : WindowRecord} (h : e.definition = some d) :
    ∃ size target share foreign, e.defineSize = some size ∧ e.defineTarget = some target ∧
      e.defineShare = some share ∧ e.defineForeign = some foreign ∧ baseInRange e.param1 size = true ∧
      e.param2.extractLsb' 16 8 ≠ 0 ∧ e.param2.extractLsb' 24 8 ≠ 0 := by
  unfold CommandEntry.definition at h
  split at h
  · next size target share foreign hsize htarget hshare hforeign =>
    split at h
    · next hrange => exact ⟨size, target, share, foreign, hsize, htarget, hshare, hforeign, hrange⟩
    · cases h
  · cases h

/-- The record that DEFINE writes is a lawful definition (R6, R7). -/
theorem definition_lawful {e : CommandEntry} {d : WindowRecord} (h : e.definition = some d) : d.lawful := by
  obtain ⟨size, target, share, foreign, hsize, htarget, hshare, hforeign, hbase, hgrace, hlimit⟩ :=
    fields_of_definition h
  rw [definition_of_fields hsize htarget hshare hforeign hbase hgrace hlimit] at h
  cases h
  exact ⟨fun hu => (by cases hu), fun _ => ⟨hbase, defineShare_ne_cleared hshare, hgrace, hlimit⟩⟩

/-! ### Operations that leave the Window Table as it is -/

/-- A post to the master leaves the Window Table and the Claim Table as they are. -/
theorem postToMaster_tables (s : State) (except : Option SlotId) (x : Subject) (b : NoticeBody) :
    SameTables s (s.postToMaster except x b) := by
  obtain ⟨h, -⟩ | ⟨m, -, -, h, -⟩ := postToMaster_cases s except x b
  · rw [h]
    exact ⟨rfl, rfl, rfl⟩
  · rw [h]
    exact post_tables ..

@[simp] theorem window_postToMaster (s : State) (except : Option SlotId) (x : Subject) (b : NoticeBody) (w : WindowId) :
    (s.postToMaster except x b).window w = s.window w := by
  simp only [State.window, (postToMaster_tables s except x b).windows]

@[simp] theorem claim_postToMaster (s : State) (except : Option SlotId) (x : Subject) (b : NoticeBody) (w : WindowId) :
    (s.postToMaster except x b).claim w = s.claim w := by
  simp only [State.claim, (postToMaster_tables s except x b).claims]

theorem foldl_windows {α : Type} {f : State → α → State} (h : ∀ s a, (f s a).windows = s.windows) (l : List α)
    (s : State) : (l.foldl f s).windows = s.windows :=
  foldl_keeps (P := fun t => t.windows = s.windows) (fun t a ht => (h t a).trans ht) l s rfl

theorem leaveActive_windows (s : State) (n : SlotId) (reason : ExitReason) :
    (s.leaveActive n reason).windows = s.windows := rfl

theorem exitPort_windows (s : State) (n : SlotId) (reason : ExitReason) :
    (s.exitPort n reason).windows = s.windows := by
  cases reason with
  | none | left | reset | removed => rfl
  | silent | evicted => exact post_windows ..

theorem tellVacant_windows (s : State) (m : SlotId) : (s.tellVacant m).windows = s.windows := by
  unfold State.tellVacant
  split
  · exact post_windows ..
  · rfl

theorem exitRole_windows (s : State) (n : SlotId) : (s.exitRole n).windows = s.windows := by
  unfold State.exitRole
  split
  · exact foldl_windows tellVacant_windows allSlots _
  · rfl

theorem reloadSilence_windows (s : State) (n : SlotId) : (s.reloadSilence n).windows = s.windows := by
  unfold State.reloadSilence
  split <;> rfl

theorem selectTick_windows (s : State) (select : Fin 4) : (s.selectTick select).windows = s.windows := by
  unfold State.selectTick
  split <;> rfl

theorem expire_windows (s : State) (r : RecordId) : (s.expire r).windows = s.windows := by
  unfold State.expire
  extract_lets c
  split
  · rfl
  all_goals exact post_windows ..

theorem recallHold_windows (w : WindowId) (u : Option SlotId) (s : State) (r : RecordId) :
    (State.recallHold w u s r).windows = s.windows := by
  unfold State.recallHold
  split
  · rfl
  · exact post_windows ..

theorem recallHolds_windows (s : State) (w : WindowId) (u : Option SlotId) :
    (s.recallHolds w u).windows = s.windows :=
  foldl_windows (recallHold_windows w u) _ s

theorem withdrawForClose_windows (w : WindowId) (s : State) (r : RecordId) :
    (State.withdrawForClose w s r).windows = s.windows := post_windows ..

theorem placeGiven_windows (s : State) (w : WindowId) (b : Option SlotId) :
    (s.placeGiven w b).1.windows = s.windows := by
  unfold State.placeGiven State.placeBeneficiary
  repeat' split
  all_goals rfl

theorem carryOut_windows (s : State) (n : SlotId) (addr : Word) (kind : AccessKind) (v : Verdict) :
    (s.carryOut n addr kind v).windows = s.windows := by
  cases v with
  | passHolder w r =>
    show (s.renewByAccess w r).windows = s.windows
    unfold State.renewByAccess
    split <;> rfl
  | passForeign w => rfl
  | refuse cause => exact post_windows ..
  | holdOff => rfl

theorem writePort_windows (s : State) (n : SlotId) (offset : Nat) (value : Word) :
    (s.writePort n offset value).windows = s.windows := by
  unfold State.writePort
  repeat' split
  all_goals rfl

theorem readPort_windows (s : State) (n : SlotId) (offset : Nat) : (s.readPort n offset).windows = s.windows := by
  unfold State.readPort
  split <;> rfl

/-- A control-block cycle keeps the law where its access leaves the Window Table alone. -/
theorem WindowsLawful.portCycle {s : State} (h : WindowsLawful s) (n : SlotId) {access : State → State}
    (ha : ∀ s, (access s).windows = s.windows) : WindowsLawful (s.portCycle n access) := by
  refine h.of_windows ?_
  unfold State.portCycle
  repeat' split
  · rfl
  · rfl
  · exact (ha _).trans (reloadSilence_windows s n)

/-! ### Procedures that close a DRAINING window -/

theorem WindowsLawful.postToMaster {s : State} (h : WindowsLawful s) (except : Option SlotId) (x : Subject)
    (b : NoticeBody) : WindowsLawful (s.postToMaster except x b) := h.of_windows (postToMaster_tables ..).windows

theorem WindowsLawful.grantPass {s : State} (h : WindowsLawful s) (w : WindowId) : WindowsLawful (s.grantPass w) :=
  h.of_windows (grantPass_windows s w)

theorem WindowsLawful.lastHoldRetired {s : State} (h : WindowsLawful s) (w : WindowId) (x : Option SlotId) :
    WindowsLawful (s.lastHoldRetired w x) := by
  have h' : WindowsLawful (s.setClaim w { s.claim w with marker := .idle }) := h.of_windows rfl
  unfold State.lastHoldRetired
  split
  · next hd => exact (h'.setWindow (.of_state (by simp [hd]) (by decide))).postToMaster ..
  · exact h'

theorem WindowsLawful.followUps {s : State} (h : WindowsLawful s) (w : WindowId) (held : Bool) (x : Option SlotId) :
    WindowsLawful (s.followUps w held x) := by
  unfold State.followUps
  split
  · exact (h.lastHoldRetired w x).grantPass w
  · exact h.grantPass w

theorem WindowsLawful.retireAlone {s : State} (h : WindowsLawful s) (r : RecordId) (x : Option SlotId) :
    WindowsLawful (s.retireAlone r x) :=
  (h.of_windows (retire_windows s r)).followUps ..

theorem WindowsLawful.exitRecords {s : State} (h : WindowsLawful s) (n : SlotId) : WindowsLawful (s.exitRecords n) := by
  refine foldl_keeps (fun t w ht => ?_) allWindows s h
  unfold State.exitWindow
  split
  · exact ht
  · exact ht.retireAlone ..

theorem WindowsLawful.exit {s : State} (h : WindowsLawful s) (n : SlotId) (reason : ExitReason) :
    WindowsLawful (s.exit n reason) := by
  have h3 : WindowsLawful (((s.exitRecords n).leaveActive n reason).exitPort n reason) :=
    ((h.exitRecords n).of_windows (leaveActive_windows ..)).of_windows (exitPort_windows ..)
  unfold State.exit
  extract_lets s3 s4
  have h4 : WindowsLawful s4 := by
    unfold s4
    split
    · exact h3
    · exact h3.postToMaster ..
  exact h4.of_windows (exitRole_windows ..)

theorem WindowsLawful.tickClaims {s : State} (h : WindowsLawful s) : WindowsLawful s.tickClaims := by
  refine foldl_keeps (fun t w ht => ?_) allWindows s h
  have h2 : WindowsLawful ((t.runningOut w).foldl State.expire (t.countWindow w)) :=
    ht.of_windows (foldl_windows expire_windows _ (t.countWindow w))
  unfold State.tickWindow
  extract_lets due s2
  split
  · exact h2.followUps ..
  · exact h2

theorem WindowsLawful.lastTick {s : State} (h : WindowsLawful s) (r : RecordId) (phase : ClaimPhase) :
    WindowsLawful (s.lastTick r phase) := by
  have he : WindowsLawful (s.expire r) := h.of_windows (expire_windows s r)
  unfold State.lastTick
  extract_lets c
  repeat' split
  · exact he
  · exact he.followUps ..
  · exact h

theorem WindowsLawful.tickSlots {s : State} (h : WindowsLawful s) : WindowsLawful s.tickSlots := by
  unfold State.tickSlots
  split
  · exact h
  · refine foldl_keeps (fun t n ht => ?_) allSlots s h
    unfold State.tickSlot
    split
    · split
      · exact ht.exit ..
      · exact ht.of_windows rfl
    · exact ht

theorem WindowsLawful.lastSilence {s : State} (h : WindowsLawful s) (n : SlotId) : WindowsLawful (s.lastSilence n) := by
  unfold State.lastSilence
  split
  · exact h.exit ..
  · exact h

/-! ### The input lines -/

theorem WindowsLawful.rise {s : State} (h : WindowsLawful s) (n : SlotId) : WindowsLawful (s.rise n) := by
  unfold State.rise
  split
  · exact (h.of_windows (t := s.setSlot n _) rfl).postToMaster ..
  · exact h

theorem WindowsLawful.fall {s : State} (h : WindowsLawful s) (n : SlotId) : WindowsLawful (s.fall n) := by
  unfold State.fall
  split
  · exact h.exit ..
  · exact (h.of_windows (t := (s.leaveActive n .removed).clearPort n) rfl).postToMaster ..
  · exact h

theorem WindowsLawful.slotReset {s : State} (h : WindowsLawful s) (n : SlotId) : WindowsLawful (s.slotReset n) := by
  unfold State.slotReset
  split
  · exact h.exit ..
  · exact (h.of_windows (t := (s.leaveActive n .reset).clearPortAndParams n) rfl).postToMaster ..
  · exact h

/-- Backplane reset closes OPEN and DRAINING windows and keeps every definition (R19). -/
theorem closedByReset_kept (d : WindowRecord) : d.KeptAs d.closedByReset := by
  unfold WindowRecord.closedByReset
  split
  · next h => exact .of_state (by simp [h]) (by decide)
  · next h => exact .of_state (by simp [h]) (by decide)
  · exact .refl d
  · exact .refl d

theorem window_backplaneReset (s : State) (w : WindowId) :
    s.backplaneReset.window w = (s.window w).closedByReset := by
  simp [State.backplaneReset, State.window]

theorem WindowsLawful.backplaneReset {s : State} (h : WindowsLawful s) : WindowsLawful s.backplaneReset :=
  h.of_kept fun w => by simpa only [window_backplaneReset] using closedByReset_kept _

/-- A table with every window UNDEFINED keeps the law. -/
theorem WindowsLawful.of_cleared {s : State} (h : ∀ w, s.window w = .cleared) : WindowsLawful s := by
  refine ⟨fun w => by rw [h]; exact WindowRecord.cleared_lawful, fun v w _ hv => ?_⟩
  simp [h, WindowRecord.cleared] at hv

@[simp] theorem window_powerOn (pres elig : BitVec 8) (w : WindowId) :
    (State.powerOn pres elig).window w = WindowRecord.cleared := by
  simp [State.powerOn, State.window]

/-! ### The commands -/

/-- A command keeps a property if its effect does, once every check has passed. -/
theorem answer_keeps {P : State → Prop} {s : State} {checks : List (Bool × OutcomeCode)} {effect : State × Reply}
    (hs : P s) (he : (∀ p ∈ checks, p.1 = false) → P effect.1) : P (s.answer checks effect).1 := by
  obtain ⟨o, -, h⟩ | ⟨hpass, h⟩ := answer_cases s checks effect
  · rwa [h]
  · rw [h]
    exact he hpass

/-- A hold command keeps a property if its effect on the hold does. -/
theorem onHold_keeps {P : State → Prop} {s : State} {c : SlotId} {w : WindowId} {effect : RecordId → State × Reply}
    (hs : P s) (he : ∀ r, P (effect r).1) : P (s.onHold c w effect).1 := by
  unfold State.onHold
  split
  · exact hs
  · exact he _

section
variable {s : State} (c : SlotId) (e : CommandEntry)

theorem WindowsLawful.joinCommand (h : WindowsLawful s) : WindowsLawful (joinCommand c e s).1 :=
  answer_keeps h fun _ => (h.of_windows (t := s.setSlot c _) rfl).postToMaster ..

theorem WindowsLawful.leaveCommand (h : WindowsLawful s) : WindowsLawful (leaveCommand c e s).1 := by
  refine answer_keeps h fun _ => ?_
  dsimp only
  exact h.exit ..

theorem WindowsLawful.claimCommand (h : WindowsLawful s) : WindowsLawful (claimCommand c e s).1 := by
  refine answer_keeps h fun _ => ?_
  split
  · exact h
  · refine answer_keeps h fun _ => ?_
    split
    · exact h
    · unfold claimEffect
      extract_lets w s1
      split <;> exact h.of_windows (grantPass_windows ..)

theorem WindowsLawful.withdrawCommand (h : WindowsLawful s) : WindowsLawful (withdrawCommand c e s).1 := by
  refine answer_keeps h fun _ => ?_
  unfold withdrawEffect
  split
  · exact h.retireAlone ..
  · exact h.of_windows (grantPass_windows ..)

theorem WindowsLawful.releaseCommand (h : WindowsLawful s) : WindowsLawful (releaseCommand c e s).1 :=
  answer_keeps h fun _ => onHold_keeps h fun r => h.retireAlone r none

theorem WindowsLawful.renewCommand (h : WindowsLawful s) : WindowsLawful (renewCommand c e s).1 :=
  answer_keeps h fun _ => onHold_keeps h fun _ => h.of_windows rfl

theorem WindowsLawful.upgradeCommand (h : WindowsLawful s) : WindowsLawful (upgradeCommand c e s).1 := by
  refine answer_keeps h fun _ => onHold_keeps h fun r => ?_
  unfold upgradeEffect
  extract_lets y
  repeat' split
  · exact h.of_windows (grantPass_windows ..)
  · exact h
  · exact h.of_windows (grantPass_windows ..)

theorem WindowsLawful.downgradeCommand (h : WindowsLawful s) : WindowsLawful (downgradeCommand c e s).1 :=
  answer_keeps h fun _ => onHold_keeps h fun _ => h.of_windows (grantPass_windows ..)

theorem WindowsLawful.transferCommand (h : WindowsLawful s) : WindowsLawful (transferCommand c e s).1 := by
  refine answer_keeps h fun _ => onHold_keeps h fun r => ?_
  unfold transferEffect
  split
  · exact h
  · exact h.of_windows (grant_windows ..)

theorem WindowsLawful.queryWindowCommand (h : WindowsLawful s) : WindowsLawful (queryWindowCommand c e s).1 :=
  answer_keeps h fun _ => h

theorem WindowsLawful.querySlotCommand (h : WindowsLawful s) : WindowsLawful (querySlotCommand c e s).1 :=
  answer_keeps h fun _ => h

theorem WindowsLawful.takeMasterCommand (h : WindowsLawful s) : WindowsLawful (takeMasterCommand c e s).1 :=
  answer_keeps h fun _ => h.of_windows (post_windows ..)

/-- DEFINE writes a lawful definition, and only where it overlaps no other window (R6 to R8). -/
theorem WindowsLawful.defineCommand (h : WindowsLawful s) : WindowsLawful (defineCommand c e s).1 := by
  refine answer_keeps h fun _ => ?_
  split
  · exact h
  · next d hd =>
    refine answer_keeps h fun hpass => ?_
    exact h.setWindow_define (definition_lawful hd) (hpass (s.overlapsOther _ d, .overlap) (by simp))

theorem WindowsLawful.undefineCommand (h : WindowsLawful s) : WindowsLawful (undefineCommand c e s).1 :=
  answer_keeps h fun _ => h.setWindow (.inl rfl)

theorem WindowsLawful.openCommand (h : WindowsLawful s) : WindowsLawful (openCommand c e s).1 := by
  refine answer_keeps h fun _ => ?_
  show WindowsLawful (s.openEffect _)
  unfold State.openEffect
  split
  · next hc => exact (h.setWindow (.of_state (by simp [hc]) (by decide))).grantPass _
  · exact h

theorem WindowsLawful.closeOpen (h : WindowsLawful s) (w : WindowId) (ho : (s.window w).state = .opened) :
    WindowsLawful (s.closeOpen w) := by
  have hw : ∀ t : State, t.windows = s.windows → t.window w = s.window w := fun t ht => by simp [State.window, ht]
  have k1 := foldl_windows (withdrawForClose_windows w) (s.claim w).waitList s
  unfold State.closeOpen
  extract_lets u s1 src s2
  have k2 : s2.windows = s.windows := k1
  split
  · refine ((h.of_windows k2).setWindow (.of_state ?_ (by decide))).postToMaster ..
    simp [hw s2 k2, ho]
  · have k3 := (recallHolds_windows s2 w u).trans k2
    refine (h.of_windows (t := State.setClaim ..) k3).setWindow (.of_state ?_ (by decide))
    simp [hw _ k3, ho]

theorem WindowsLawful.closeCommand (h : WindowsLawful s) : WindowsLawful (closeCommand c e s).1 := by
  refine answer_keeps h fun _ => ?_
  show WindowsLawful (s.closeEffect _)
  unfold State.closeEffect
  split
  · next ho => exact h.closeOpen _ ho
  · exact h

theorem WindowsLawful.recallCommand (h : WindowsLawful s) : WindowsLawful (recallCommand c e s).1 := by
  refine answer_keeps h fun _ => ?_
  unfold recallEffect
  split
  · exact h.of_windows ((grantPass_windows ..).trans (placeGiven_windows ..))
  · exact h.of_windows ((placeGiven_windows ..).trans (recallHolds_windows ..))

theorem WindowsLawful.evictCommand (h : WindowsLawful s) : WindowsLawful (evictCommand c e s).1 := by
  refine answer_keeps h fun _ => ?_
  dsimp only
  exact h.exit ..

theorem WindowsLawful.setQuotaCommand (h : WindowsLawful s) : WindowsLawful (setQuotaCommand c e s).1 :=
  answer_keeps h fun _ => h.of_windows rfl

theorem WindowsLawful.setEligibleCommand (h : WindowsLawful s) : WindowsLawful (setEligibleCommand c e s).1 :=
  answer_keeps h fun _ => h.of_windows rfl

theorem WindowsLawful.setTimingCommand (h : WindowsLawful s) : WindowsLawful (setTimingCommand c e s).1 := by
  refine answer_keeps h fun _ => h.of_windows ?_
  dsimp only
  rw [selectTick_windows]
  exact foldl_windows reloadSilence_windows allSlots _

theorem WindowsLawful.handMasterCommand (h : WindowsLawful s) : WindowsLawful (handMasterCommand c e s).1 :=
  answer_keeps h fun _ => h.of_windows ((post_windows ..).trans (post_windows ..))

end

/-! ### The step -/

/-- The take of a command keeps the law if the command does. -/
theorem WindowsLawful.takeWhere {s : State} (h : WindowsLawful s) (isOpcode : BitVec 8 → Bool)
    {f : SlotId → CommandEntry → State → State × Reply}
    (hf : ∀ {s} c e, WindowsLawful s → WindowsLawful (f c e s).1) : WindowsLawful (s.takeWhere isOpcode f) := by
  unfold State.takeWhere
  repeat' split
  · exact h
  · exact h
  · next c e _ _ =>
    have hm : WindowsLawful (f c e (s.popCommand c)).1 := hf c e (h.of_windows rfl)
    exact hm.of_windows rfl
  · exact h

/-- A property of the state that a row answers `.next` with. -/
theorem of_next {P : State → Prop} {t u : State} (h : (.next u : Host.Outcome State Fault Refusal) = .next t)
    (hu : P u) : P t := by
  cases h
  exact hu

/-- Each row of the table keeps the law of the Window Table. -/
theorem WindowsLawful.exec {s t : State} (h : WindowsLawful s) (i : Instr) (e : exec i s = .next t) :
    WindowsLawful t := by
  cases i with
  | join => exact of_next e (h.takeWhere _ WindowsLawful.joinCommand)
  | leave => exact of_next e (h.takeWhere _ WindowsLawful.leaveCommand)
  | claim => exact of_next e (h.takeWhere _ WindowsLawful.claimCommand)
  | withdraw => exact of_next e (h.takeWhere _ WindowsLawful.withdrawCommand)
  | release => exact of_next e (h.takeWhere _ WindowsLawful.releaseCommand)
  | renew => exact of_next e (h.takeWhere _ WindowsLawful.renewCommand)
  | upgrade => exact of_next e (h.takeWhere _ WindowsLawful.upgradeCommand)
  | downgrade => exact of_next e (h.takeWhere _ WindowsLawful.downgradeCommand)
  | transfer => exact of_next e (h.takeWhere _ WindowsLawful.transferCommand)
  | queryWindow => exact of_next e (h.takeWhere _ WindowsLawful.queryWindowCommand)
  | querySlot => exact of_next e (h.takeWhere _ WindowsLawful.querySlotCommand)
  | takeMaster => exact of_next e (h.takeWhere _ WindowsLawful.takeMasterCommand)
  | define => exact of_next e (h.takeWhere _ WindowsLawful.defineCommand)
  | undefine => exact of_next e (h.takeWhere _ WindowsLawful.undefineCommand)
  | openWindow => exact of_next e (h.takeWhere _ WindowsLawful.openCommand)
  | closeWindow => exact of_next e (h.takeWhere _ WindowsLawful.closeCommand)
  | recallWindow => exact of_next e (h.takeWhere _ WindowsLawful.recallCommand)
  | evict => exact of_next e (h.takeWhere _ WindowsLawful.evictCommand)
  | setQuota => exact of_next e (h.takeWhere _ WindowsLawful.setQuotaCommand)
  | setEligible => exact of_next e (h.takeWhere _ WindowsLawful.setEligibleCommand)
  | setTiming => exact of_next e (h.takeWhere _ WindowsLawful.setTimingCommand)
  | handMaster => exact of_next e (h.takeWhere _ WindowsLawful.handMasterCommand)
  | unknownOpcode => exact of_next e (h.takeWhere _ fun _ _ h => h)
  | respPop n _ => exact of_next e (h.portCycle n fun _ => by rfl)
  | notice0Read n => exact of_next e (h.portCycle n fun _ => by rfl)
  | noticePop n _ => exact of_next e (h.portCycle n fun _ => by rfl)
  | attnEnWrite n _ => exact of_next e (h.portCycle n fun _ => by rfl)
  | controlBlockWrite n addr width value =>
    refine of_next e ?_
    split
    · refine h.portCycle n fun m => ?_
      split
      · exact writePort_windows ..
      · rfl
    · exact h
  | controlBlockRead n addr width =>
    refine of_next e ?_
    split
    · refine h.portCycle n fun m => ?_
      split
      · exact readPort_windows ..
      · rfl
    · exact h
  | cycleCheck n addr kind _ =>
    refine of_next e ?_
    split
    · exact h
    · exact h.of_windows ((carryOut_windows ..).trans (reloadSilence_windows s n))
  | cycleEnd => exact of_next e (h.of_windows rfl)
  | tick => exact of_next e (h.of_windows (by split <;> rfl))
  | claimTableTick =>
    refine of_next e ?_
    split
    · exact h
    · exact WindowsLawful.tickClaims (h.of_windows rfl)
  | slotTableTick =>
    refine of_next e ?_
    split
    · exact h
    · exact WindowsLawful.tickSlots (h.of_windows rfl)
  | waitTimeout r => exact of_next e (h.lastTick r .waiting)
  | leaseExpiry r => exact of_next e (h.lastTick r .held)
  | graceExpiry r => exact of_next e (h.lastTick r .lapsing)
  | recallLimitExpiry r => exact of_next e (h.lastTick r .recalled)
  | silenceExpiry n => exact of_next e (h.lastSilence n)
  | presRise n =>
    refine of_next e ?_
    split
    · exact h.of_windows rfl
    · exact (h.of_windows (t := s.setLine n true) rfl).rise n
  | presFall n =>
    refine of_next e ?_
    split
    · exact h.of_windows rfl
    · exact (h.of_windows (t := s.setLine n false) rfl).fall n
  | slotReset n =>
    refine of_next e ?_
    split
    · exact h
    · exact h.slotReset n
  | backplaneReset =>
    refine of_next e ?_
    split
    · exact h
    · exact h.backplaneReset
  | powerOnReset elig => exact of_next e (.of_cleared fun w => window_powerOn s.presLines elig w)
  | porAsserted => exact of_next e (h.of_windows rfl)

theorem refclk_windows (s : State) : s.refclk.windows = s.windows := by
  unfold State.refclk
  repeat' split
  all_goals rfl

/-- Settles O55: by the rows of the table; a definition changes under DEFINE alone, whose checks are the law, and is
cleared under UNDEFINE and POWER_ON_RESET. -/
theorem windowsNeverOverlap : Obligations.WindowsNeverOverlap := by
  unfold Obligations.WindowsNeverOverlap
  intro s t h e
  cases hp : s.pending with
  | nil =>
    rw [step_of_idle hp] at e
    exact of_next e (h.of_windows (refclk_windows s))
  | cons i rest =>
    rw [step_of_pending hp] at e
    exact (h.of_windows (t := { s with pending := rest }) rfl).exec i e

end Sys2Proof.Machine
end

section
/-! SUPPORT. The take of a command: how it is answered, and the common checks (R142, R165). -/

namespace Sys2Proof.Machine

/-! ### A whole take -/

/-- The command of a take row (10.7); for any other row, the answer to an opcode that is not in the catalogue. -/
def commandOf : Instr → SlotId → CommandEntry → State → State × Reply
  | .join => joinCommand
  | .leave => leaveCommand
  | .claim => claimCommand
  | .withdraw => withdrawCommand
  | .release => releaseCommand
  | .renew => renewCommand
  | .upgrade => upgradeCommand
  | .downgrade => downgradeCommand
  | .transfer => transferCommand
  | .queryWindow => queryWindowCommand
  | .querySlot => querySlotCommand
  | .takeMaster => takeMasterCommand
  | .define => defineCommand
  | .undefine => undefineCommand
  | .openWindow => openCommand
  | .closeWindow => closeCommand
  | .recallWindow => recallCommand
  | .evict => evictCommand
  | .setQuota => setQuotaCommand
  | .setEligible => setEligibleCommand
  | .setTiming => setTimingCommand
  | .handMaster => handMasterCommand
  | _ => unknownCommand

/-- A take row is the take of its command by its code (R161). -/
theorem exec_takeRow : ∀ p ∈ takeRows, ∀ s : State, exec p.1 s = runCommand p.2 (commandOf p.1) s := by
  intro p hp s
  fin_cases hp <;> rfl

/-- A row whose entry the arbiter reaches is that entry's whole take (R162). -/
theorem exec_of_takes {s : State} {c : SlotId} {e : CommandEntry} {p : Instr × BitVec 8} (hp : p ∈ takeRows)
    (h : TakesCommand s c e p.2) : exec p.1 s = .next (s.completeTake c e (commandOf p.1)) :=
  (exec_takeRow p hp s).trans (runCommand_of_takes h _)

section
variable {s : State} {c : SlotId} {e : CommandEntry} {y : Reply}
  {f : SlotId → CommandEntry → State → State × Reply}

/-- A command that leaves its state as it is, refused or a query, is answered and nothing else (R165). -/
theorem onlyAnswered_of_command (h : f c e (s.popCommand c) = (s.popCommand c, y)) :
    OnlyAnswered s (s.completeTake c e f) c e y := by
  unfold State.completeTake
  rw [h]
  exact onlyAnswered_pop s c e y

end

/-! ### Checks in their order -/

section
variable {s : State} {c : SlotId} {e : CommandEntry} {checks : List (Bool × OutcomeCode)} {effect : State × Reply}

/-- A check that fails first gives its refusal (R165). -/
theorem answer_fail {b : Bool} (o : OutcomeCode) (h : b = true) :
    s.answer ((b, o) :: checks) effect = (s, Reply.refusal o) := by
  simp [State.answer, firstRefusal, h]

/-- A check that passes leaves the answer to those after it. -/
theorem answer_pass {b : Bool} (o : OutcomeCode) (h : b = false) :
    s.answer ((b, o) :: checks) effect = s.answer checks effect := by
  simp [State.answer, firstRefusal, h]

/-- With no check left the command has its effect. -/
@[simp] theorem answer_nil : s.answer [] effect = effect := rfl

theorem answer_notActive (h : (s.slot c).state ≠ .active) :
    s.answer (s.checkActive c :: checks) effect = (s, Reply.refusal .notActive) :=
  answer_fail _ (by simpa using h)

theorem answer_active (h : (s.slot c).state = .active) :
    s.answer (s.checkActive c :: checks) effect = s.answer checks effect :=
  answer_pass _ (by simpa using h)

theorem answer_seated (h : (s.slot c).state ≠ .absent) :
    s.answer (s.checkSeated c :: checks) effect = s.answer checks effect :=
  answer_pass _ (by simpa using h)

theorem answer_notMaster (h : s.master ≠ some c) :
    s.answer (s.checkMaster c :: checks) effect = (s, Reply.refusal .notMaster) :=
  answer_fail _ (by simpa using h)

theorem answer_master (h : s.master = some c) :
    s.answer (s.checkMaster c :: checks) effect = s.answer checks effect :=
  answer_pass _ (by simpa using h)

theorem windowInRange_eq_false {p : Word} : windowInRange p = false ↔ 32 ≤ (lowByte p).toNat := by
  simp [windowInRange]

theorem slotInRange_eq_false {p : Word} : slotInRange p = false ↔ 8 ≤ (lowByte p).toNat := by
  simp [slotInRange]

/-- A window field that names a window is in range and is read as that window (10.8). -/
theorem windowInRange_of_names {w : WindowId} (h : NamesWindow e w) : windowInRange e.param0 = true := by
  simp [windowInRange, h]

theorem windowField_of_names {w : WindowId} (h : NamesWindow e w) : windowField e.param0 = w := by
  simp [windowField, h]

theorem slotInRange_of_names {p : Word} {n : SlotId} (h : NamesSlot p n) : slotInRange p = true := by
  simp [slotInRange, h]

theorem slotField_of_names {p : Word} {n : SlotId} (h : NamesSlot p n) : slotField p = n := by
  simp [slotField, h]

theorem answer_badWindow (h : 32 ≤ (lowByte e.param0).toNat) :
    s.answer (checkWindowRange e :: checks) effect = (s, Reply.refusal .badParam) :=
  answer_fail _ (by simpa [windowInRange_eq_false] using h)

theorem answer_window {w : WindowId} (h : NamesWindow e w) :
    s.answer (checkWindowRange e :: checks) effect = s.answer checks effect :=
  answer_pass _ (by simp [windowInRange_of_names h])

theorem answer_undefined {w : WindowId} (hw : NamesWindow e w) (h : (s.window w).state = .undefined) :
    s.answer (s.checkDefined e :: checks) effect = (s, Reply.refusal .noWindow) :=
  answer_fail _ (by simp [windowField_of_names hw, WindowRecord.isDefined, h])

theorem answer_defined {w : WindowId} (hw : NamesWindow e w) (h : (s.window w).state ≠ .undefined) :
    s.answer (s.checkDefined e :: checks) effect = s.answer checks effect :=
  answer_pass _ (by simp [windowField_of_names hw, WindowRecord.isDefined, h])

end

/-! ### The common checks, command by command (R142, R165) -/

section
variable {s : State} {c : SlotId} {e : CommandEntry}

/-- Slot-state step of every command but JOIN and the queries. -/
theorem commandOf_notActive {p : Instr × BitVec 8} (hp : p ∈ takeRows)
    (hi : p.1 ∉ [Instr.join, .queryWindow, .querySlot])
    (h : (s.slot c).state ≠ .active) : commandOf p.1 c e s = (s, Reply.refusal .notActive) := by
  fin_cases hp
  all_goals first
    | exact answer_notActive h
    | simp at hi

/-- Privilege step of the commands that are the master's alone (R142). -/
theorem commandOf_notMaster {i : Instr}
    (hi : i ∈ [Instr.define, .undefine, .openWindow, .closeWindow, .recallWindow, .evict, .setQuota, .setEligible,
      .setTiming, .handMaster])
    (ha : (s.slot c).state = .active) (h : s.master ≠ some c) :
    commandOf i c e s = (s, Reply.refusal .notMaster) := by
  fin_cases hi <;>
    exact (answer_active ha).trans (answer_notMaster h)

/-- Range step of the commands that any ACTIVE slot may give and that name a window. -/
theorem commandOf_badWindow {i : Instr}
    (hi : i ∈ [Instr.claim, .withdraw, .release, .renew, .upgrade, .downgrade, .transfer])
    (ha : (s.slot c).state = .active) (h : 32 ≤ (lowByte e.param0).toNat) :
    commandOf i c e s = (s, Reply.refusal .badParam) := by
  have hr := windowInRange_eq_false.mpr h
  fin_cases hi <;> exact (answer_active ha).trans (answer_fail _ (by simp [hr]))

/-- Range step of the master's commands that name a window. -/
theorem commandOf_master_badWindow {i : Instr}
    (hi : i ∈ [Instr.define, .undefine, .openWindow, .closeWindow, .recallWindow])
    (ha : (s.slot c).state = .active) (hm : s.master = some c) (h : 32 ≤ (lowByte e.param0).toNat) :
    commandOf i c e s = (s, Reply.refusal .badParam) := by
  have hr := windowInRange_eq_false.mpr h
  fin_cases hi <;>
    exact ((answer_active ha).trans (answer_master hm)).trans (answer_fail _ (by simp [hr]))

/-- Range step of the master's commands that name a slot in PARAM0. -/
theorem commandOf_master_badSlot {i : Instr} (hi : i ∈ [Instr.evict, .setQuota, .handMaster])
    (ha : (s.slot c).state = .active) (hm : s.master = some c) (h : 8 ≤ (lowByte e.param0).toNat) :
    commandOf i c e s = (s, Reply.refusal .badParam) := by
  have hr := slotInRange_eq_false.mpr h
  fin_cases hi <;>
    exact ((answer_active ha).trans (answer_master hm)).trans (answer_fail _ (by simp [hr]))

/-- Window-defined step of the commands that any ACTIVE slot may give. -/
theorem commandOf_noWindow {i : Instr} (hi : i ∈ [Instr.withdraw, .release, .renew, .upgrade, .downgrade])
    (ha : (s.slot c).state = .active) {w : WindowId} (hw : NamesWindow e w) (h : (s.window w).state = .undefined) :
    commandOf i c e s = (s, Reply.refusal .noWindow) := by
  fin_cases hi <;>
    exact ((answer_active ha).trans (answer_window hw)).trans (answer_undefined hw h)

/-- Window-defined step of the master's commands on a window. -/
theorem commandOf_master_noWindow {i : Instr} (hi : i ∈ [Instr.undefine, .openWindow, .closeWindow])
    (ha : (s.slot c).state = .active) (hm : s.master = some c) {w : WindowId} (hw : NamesWindow e w)
    (h : (s.window w).state = .undefined) : commandOf i c e s = (s, Reply.refusal .noWindow) := by
  fin_cases hi <;>
    exact (((answer_active ha).trans (answer_master hm)).trans (answer_window hw)).trans (answer_undefined hw h)

theorem joinCommand_alreadyActive (h : (s.slot c).state = .active) :
    joinCommand c e s = (s, Reply.refusal .alreadyActive) := answer_fail _ (by simpa using h)

theorem queryWindowCommand_badWindow (hs : (s.slot c).state ≠ .absent) (h : 32 ≤ (lowByte e.param0).toNat) :
    queryWindowCommand c e s = (s, Reply.refusal .badParam) :=
  (answer_seated hs).trans (answer_badWindow h)

theorem querySlotCommand_badSlot (hs : (s.slot c).state ≠ .absent) (h : 8 ≤ (lowByte e.param0).toNat) :
    querySlotCommand c e s = (s, Reply.refusal .badParam) :=
  (answer_seated hs).trans (answer_fail _ (by simp [slotInRange_eq_false.mpr h]))

theorem transferCommand_badSlot (ha : (s.slot c).state = .active) (h : 8 ≤ (lowByte e.param1).toNat) :
    transferCommand c e s = (s, Reply.refusal .badParam) :=
  (answer_active ha).trans (answer_fail _ (by simp [slotInRange_eq_false.mpr h]))

theorem transferCommand_noWindow (ha : (s.slot c).state = .active) (ht : (lowByte e.param1).toNat < 8) {w : WindowId}
    (hw : NamesWindow e w) (h : (s.window w).state = .undefined) :
    transferCommand c e s = (s, Reply.refusal .noWindow) :=
  ((answer_active ha).trans (answer_pass _ (by simp [windowInRange_of_names hw, slotInRange, ht]))).trans
    (answer_undefined hw h)

theorem recallCommand_badBeneficiary (ha : (s.slot c).state = .active) (hm : s.master = some c)
    (hb : e.param1.getLsbD 8 = true) (h : 8 ≤ (lowByte e.param1).toNat) :
    recallCommand c e s = (s, Reply.refusal .badParam) :=
  ((answer_active ha).trans (answer_master hm)).trans
    (answer_fail _ (by simp [CommandEntry.beneficiaryGiven, flagBit, hb, slotInRange_eq_false.mpr h]))

end

/-- An opcode that no take row has is not in the catalogue (10.7). -/
theorem not_mem_catalogue {op : BitVec 8} (h : ∀ p ∈ takeRows, op ≠ p.2) : catalogue.contains op = false := by
  have hc : catalogue = takeRows.map Prod.snd := rfl
  rw [hc, List.contains_eq_mem, decide_eq_false_iff_not, List.mem_map]
  rintro ⟨p, hp, rfl⟩
  exact h p hp rfl

/-- The take of an opcode that is not in the catalogue is answered BAD_OPCODE (R165 step 1). -/
theorem exec_unknownOpcode_of_takes {s : State} {c : SlotId} {e : CommandEntry} (hpor : s.porAsserted = false)
    (hn : s.nextTake = some (c, e)) (h : ∀ p ∈ takeRows, e.opcode ≠ p.2) :
    exec .unknownOpcode s = .next (s.completeTake c e unknownCommand) := by
  show Host.Outcome.next (s.takeWhere (fun x => !catalogue.contains x) unknownCommand) = _
  simp only [State.takeWhere, hpor, hn, not_mem_catalogue h, Bool.not_false, if_true, Bool.false_eq_true, if_false]

/-- Settles O10: each clause is the first check that fails, in the order of the command's list (R165). -/
theorem commonCheckOrder : Obligations.CommonCheckOrder := by
  unfold Obligations.CommonCheckOrder
  intro s c e
  refine ⟨fun hpor hn hop => ⟨_, exec_unknownOpcode_of_takes hpor hn hop, onlyAnswered_of_command rfl⟩, ?_⟩
  rintro ⟨i, code⟩ hp ht
  refine ⟨_, exec_of_takes hp ht, ?_, ?_, ?_, ?_, ?_, ?_, ?_, ?_, ?_, ?_, ?_, ?_, ?_⟩
  · rintro rfl ha
    exact onlyAnswered_of_command (joinCommand_alreadyActive ha)
  · intro hi hs
    exact onlyAnswered_of_command (commandOf_notActive hp hi (by simp [hs]))
  · intro hi ha hm
    exact onlyAnswered_of_command (commandOf_notMaster hi ha hm)
  · intro hi ha hw
    exact onlyAnswered_of_command (commandOf_badWindow hi ha hw)
  · intro hi ha hm hw
    exact onlyAnswered_of_command (commandOf_master_badWindow hi ha hm hw)
  · rintro rfl hs hw
    exact onlyAnswered_of_command (queryWindowCommand_badWindow hs hw)
  · intro hi ha w hw hu
    exact onlyAnswered_of_command (commandOf_noWindow hi ha hw hu)
  · rintro rfl ha hn
    exact onlyAnswered_of_command (transferCommand_badSlot ha hn)
  · rintro rfl ha hn w hw hu
    exact onlyAnswered_of_command (transferCommand_noWindow ha hn hw hu)
  · intro hi ha hm hn
    exact onlyAnswered_of_command (commandOf_master_badSlot hi ha hm hn)
  · rintro rfl ha hm hb hn
    exact onlyAnswered_of_command (recallCommand_badBeneficiary ha hm hb hn)
  · rintro rfl hs hn
    exact onlyAnswered_of_command (querySlotCommand_badSlot hs hn)
  · intro hi ha hm w hw hu
    exact onlyAnswered_of_command (commandOf_master_noWindow hi ha hm hw hu)

end Sys2Proof.Machine
end

section
/-! SUPPORT. The notices that operations post, and the follow-ups of a retirement (R13, R35). -/

namespace Sys2Proof.Machine

/-! ### Posted notices (R148, R149) -/

theorem queueAfter_append (l k : List (SlotId × Subject × NoticeBody)) (n : SlotId) (q : List Notice) :
    queueAfter (l ++ k) n q = queueAfter k n (queueAfter l n q) := List.foldl_append ..

/-- Nothing is posted where every queue stays as it is. -/
theorem Posted.of_queues {s t : State} (h : ∀ n, t.queue n = s.queue n) : Posted s t [] := fun n => by
  simp [h, queueAfter]

/-- The notices of two changes, in order; the first leaves every slot's standing as it is. -/
theorem Posted.append {s t u : State} {l k : List (SlotId × Subject × NoticeBody)} (h : Posted s t l)
    (hk : Posted t u k) (hs : ∀ n, t.slot n = s.slot n) : Posted s u (l ++ k) := fun n => by
  rw [hk n, h n, hs n, queueAfter_append]
  split <;> rfl

/-- One post posts one notice (R148). -/
theorem posted_post (s : State) (n : SlotId) (x : Subject) (b : NoticeBody) : Posted s (s.post n x b) [(n, x, b)] := by
  intro m
  rw [queue_post]
  by_cases h : m = n
  · subst h
    by_cases k : (s.slot m).state = .absent <;> simp [k, queueAfter]
  · simp [h, queueAfter, Ne.symm h]

theorem posted_postToMaster (s : State) (except : Option SlotId) (x : Subject) (b : NoticeBody) :
    Posted s (s.postToMaster except x b) (toMaster s except x b) := by
  obtain ⟨h, hm⟩ | ⟨m, -, -, h, hm⟩ := postToMaster_cases s except x b
  · rw [h, hm]
    exact .of_queues fun _ => rfl
  · rw [h, hm]
    exact posted_post s m x b

/-! ### Follow-ups of a retirement (R35) -/

/-- No grant pass runs on a window that is not OPEN (R46). -/
theorem grantPass_of_not_opened {s : State} {w : WindowId} (h : (s.window w).state ≠ .opened) :
    s.grantPass w = s := by
  simp [State.grantPass, h]

/-- Where a hold was retired and none is left, the recall ends before the grant pass (R35 step 1). -/
theorem followUps_lastHold {s : State} {w : WindowId} (h : s.holders w = []) (x : Option SlotId) :
    s.followUps w true x = (s.lastHoldRetired w x).grantPass w := by
  simp [State.followUps, h]

/-- A DRAINING window whose last hold was retired closes, and the master is told (R13). -/
theorem lastHoldRetired_draining {s : State} {w : WindowId} (h : (s.window w).state = .draining) (x : Option SlotId) :
    s.lastHoldRetired w x =
      ((s.setClaim w { s.claim w with marker := .idle }).setWindow w
        { s.window w with state := .closed }).postToMaster x (.window w) .windowClosed := by
  simp [State.lastHoldRetired, h]

/-- Settles O17: by the two conditions of the follow-ups, the last hold retired and the window DRAINING. -/
theorem followUpsOfRetirement : Obligations.FollowUpsOfRetirement := by
  unfold Obligations.FollowUpsOfRetirement
  intro s w x
  refine ⟨by simp [State.followUps], fun h => by simp [State.followUps, h], fun h hd => ?_, fun h hd => ?_⟩
  · rw [followUps_lastHold h]
    simp [State.lastHoldRetired, hd]
  · have tables := fun t : State => postToMaster_tables t x (.window w) .windowClosed
    rw [followUps_lastHold h, lastHoldRetired_draining hd, grantPass_of_not_opened (by simp)]
    refine ⟨by simp, by simp, ⟨fun v hv => ?_, fun v hv => ?_⟩, (tables _).records, ?_, ?_⟩
    · simp [hv]
    · simp [hv]
    · exact posted_postToMaster (State.setWindow ..) x (.window w) .windowClosed
    · exact ((setClaim_beside ..).trans (setWindow_beside ..)).trans (postToMaster_beside ..)

end Sys2Proof.Machine
end

section
/-! SUPPORT. DEFINE, UNDEFINE and OPEN (R5 to R11). -/

namespace Sys2Proof.Machine

/-! ### The fields of DEFINE (10.8) -/

section
variable {e : CommandEntry}

theorem defineSize_some {size : SizeCode} (h : e.defineSize = some size) :
    (e.param0.extractLsb' 8 4).toNat = size.val := by
  unfold CommandEntry.defineSize at h
  extract_lets v at h
  split at h
  · cases h
    rfl
  · cases h

theorem defineTarget_some {target : TargetId} (h : e.defineTarget = some target) :
    (e.param0.extractLsb' 12 3).toNat = target.val := by
  unfold CommandEntry.defineTarget at h
  extract_lets v at h
  split at h
  · cases h
    rfl
  · cases h

theorem defineShare_some {share : SharePolicy} (h : e.defineShare = some share) :
    e.param0.extractLsb' 16 2 ≠ 0 ∧ e.param0.extractLsb' 16 2 ≠ 3 := by
  constructor <;> intro k <;> simp [CommandEntry.defineShare, k] at h

theorem defineForeign_some {foreign : ForeignPolicy} (h : e.defineForeign = some foreign) :
    e.param0.extractLsb' 18 2 ≠ 3 := by
  intro k
  simp [CommandEntry.defineForeign, k] at h

/-- R7 for a base address. -/
theorem baseInRange_iff {base : Word} {code : SizeCode} :
    baseInRange base code = true ↔
      0x40000000 ≤ base.toNat ∧ base.toNat < 0x80000000 ∧ base.toNat % (4096 * 2 ^ code.val) = 0 := by
  simp only [baseInRange, inSharedSpace, Bool.and_eq_true, decide_eq_true_eq, and_assoc]
  rfl

/-- A field of DEFINE is out of range (R6, R7). -/
theorem definition_eq_none
    (h : e.param0.extractLsb' 8 4 = 15 ∨ 6 ≤ (e.param0.extractLsb' 12 3).toNat ∨
      e.param0.extractLsb' 16 2 = 0 ∨ e.param0.extractLsb' 16 2 = 3 ∨ e.param0.extractLsb' 18 2 = 3 ∨
      e.param1.toNat < 0x40000000 ∨ 0x80000000 ≤ e.param1.toNat ∨
      e.param1.toNat % (4096 * 2 ^ (e.param0.extractLsb' 8 4).toNat) ≠ 0 ∨ e.param2.extractLsb' 16 8 = 0 ∨
      e.param2.extractLsb' 24 8 = 0) : e.definition = none := by
  rw [Option.eq_none_iff_forall_ne_some]
  intro d hd
  obtain ⟨size, target, share, foreign, hsize, htarget, hshare, hforeign, hbase, hgrace, hlimit⟩ :=
    fields_of_definition hd
  have size_lt := size.isLt
  have target_lt := target.isLt
  obtain ⟨hlow, hhigh, hmod⟩ := baseInRange_iff.mp hbase
  obtain h | h | h | h | h | h | h | h | h | h := h
  · have := defineSize_some hsize
    simp [h] at this
    omega
  · have := defineTarget_some htarget
    omega
  · exact (defineShare_some hshare).1 h
  · exact (defineShare_some hshare).2 h
  · exact defineForeign_some hforeign h
  · omega
  · omega
  · rw [defineSize_some hsize] at h
    exact h hmod
  · exact hgrace h
  · exact hlimit h

end

/-! ### The effects on the Window Table -/

section
variable {s : State} {c : SlotId} {e : CommandEntry} {w : WindowId}

/-- The common checks of a master's window command are passed (R5). -/
theorem answer_windowChecks {rest : List (Bool × OutcomeCode)} {effect : State × Reply}
    (ha : (s.slot c).state = .active) (hm : s.master = some c) (hw : NamesWindow e w)
    (hd : (s.window w).state ≠ .undefined) :
    s.answer (windowChecks c e s ++ rest) effect = s.answer rest effect :=
  (((answer_active ha).trans (answer_master hm)).trans (answer_window hw)).trans (answer_defined hw hd)

theorem answer_busy {rest : List (Bool × OutcomeCode)} {effect : State × Reply}
    (h : (s.window w).state = .opened ∨ (s.window w).state = .draining) :
    s.answer (s.checkNotBusy w :: rest) effect = (s, Reply.refusal .windowBusy) :=
  answer_fail _ (by simpa using h)

theorem answer_notBusy {rest : List (Bool × OutcomeCode)} {effect : State × Reply}
    (h : (s.window w).state = .undefined ∨ (s.window w).state = .closed) :
    s.answer (s.checkNotBusy w :: rest) effect = s.answer rest effect :=
  answer_pass _ (by rcases h with h | h <;> simp [h])

theorem defineCommand_badParam (ha : (s.slot c).state = .active) (hm : s.master = some c)
    (h : 32 ≤ (lowByte e.param0).toNat ∨ e.definition = none) :
    defineCommand c e s = (s, Reply.refusal .badParam) := by
  refine ((answer_active ha).trans (answer_master hm)).trans (answer_fail _ ?_)
  rcases h with h | h
  · simp [windowInRange_eq_false.mpr h]
  · simp [h]

/-- The extents of two windows, as R8 compares them. -/
theorem overlaps_eq_true {d d' : WindowRecord} :
    d.overlaps d' = true ↔
      d.base.toNat < d'.base.toNat + 4096 * 2 ^ d'.sizeCode.val ∧
        d'.base.toNat < d.base.toNat + 4096 * 2 ^ d.sizeCode.val := by
  simp only [WindowRecord.overlaps, Bool.and_eq_true, decide_eq_true_eq]
  rfl

theorem overlapsOther_eq_true {d : WindowRecord} {v : WindowId} (hv : v ≠ w)
    (hdef : (s.window v).state ≠ .undefined) (h : d.overlaps (s.window v) = true) : s.overlapsOther w d = true := by
  rw [← Bool.not_eq_false, overlapsOther_eq_false]
  intro hall
  simp [hall v hv (WindowRecord.isDefined_iff.mpr hdef)] at h

/-- DEFINE with every field in range goes on to the state and overlap checks (R6). -/
theorem defineCommand_inRange (ha : (s.slot c).state = .active) (hm : s.master = some c) (hw : NamesWindow e w)
    {d : WindowRecord} (hd : e.definition = some d) :
    defineCommand c e s =
      s.answer [s.checkNotBusy w, (s.overlapsOther w d, .overlap)] (windowDone w (s.setWindow w d)) := by
  refine ((answer_active ha).trans (answer_master hm)).trans ((answer_pass _ ?_).trans ?_)
  · simp [windowInRange_of_names hw, hd]
  · simp [windowField_of_names hw, hd]

theorem defineCommand_busy (ha : (s.slot c).state = .active) (hm : s.master = some c) (hw : NamesWindow e w)
    {d : WindowRecord} (hd : e.definition = some d)
    (h : (s.window w).state = .opened ∨ (s.window w).state = .draining) :
    defineCommand c e s = (s, Reply.refusal .windowBusy) :=
  (defineCommand_inRange ha hm hw hd).trans (answer_busy h)

theorem defineCommand_overlap (ha : (s.slot c).state = .active) (hm : s.master = some c) (hw : NamesWindow e w)
    {d : WindowRecord} (hd : e.definition = some d)
    (h : (s.window w).state = .undefined ∨ (s.window w).state = .closed)
    (hover : s.overlapsOther w d = true) : defineCommand c e s = (s, Reply.refusal .overlap) :=
  (defineCommand_inRange ha hm hw hd).trans ((answer_notBusy h).trans (answer_fail _ hover))

/-- DEFINE writes the definition and makes the window CLOSED (R6, R9). -/
theorem defineCommand_writes (ha : (s.slot c).state = .active) (hm : s.master = some c) (hw : NamesWindow e w)
    {d : WindowRecord} (hd : e.definition = some d) (hc : d.state = .closed)
    (h : (s.window w).state = .undefined ∨ (s.window w).state = .closed) (hover : s.overlapsOther w d = false) :
    defineCommand c e s = (s.setWindow w d, Reply.success .ok (bitsAt 0 8 w.val ||| bitsAt 8 2 1) 0) := by
  refine (defineCommand_inRange ha hm hw hd).trans ((answer_notBusy h).trans ((answer_pass _ hover).trans ?_))
  simp [windowDone, windowReply, hc, WindowState.code]

theorem undefineCommand_busy (ha : (s.slot c).state = .active) (hm : s.master = some c) (hw : NamesWindow e w)
    (h : (s.window w).state = .opened ∨ (s.window w).state = .draining) :
    undefineCommand c e s = (s, Reply.refusal .windowBusy) := by
  have hd : (s.window w).state ≠ .undefined := by rcases h with h | h <;> simp [h]
  unfold undefineCommand
  rw [answer_windowChecks ha hm hw hd, windowField_of_names hw, answer_busy h]

/-- UNDEFINE clears a CLOSED window's record (R10). -/
theorem undefineCommand_clears (ha : (s.slot c).state = .active) (hm : s.master = some c) (hw : NamesWindow e w)
    (h : (s.window w).state = .closed) :
    undefineCommand c e s = (s.setWindow w .cleared, Reply.success .ok (bitsAt 0 8 w.val) 0) := by
  unfold undefineCommand
  rw [answer_windowChecks ha hm hw (by simp [h]), windowField_of_names hw, answer_notBusy (.inr h)]
  simp [windowDone, windowReply, WindowRecord.cleared, WindowState.code, bitsAt]

theorem openCommand_draining (ha : (s.slot c).state = .active) (hm : s.master = some c) (hw : NamesWindow e w)
    (h : (s.window w).state = .draining) : openCommand c e s = (s, Reply.refusal .windowBusy) := by
  unfold openCommand
  rw [answer_windowChecks ha hm hw (by simp [h]), windowField_of_names hw]
  exact answer_fail _ (by simp [h])

/-- OPEN of a window that is not DRAINING has the effect of R11. -/
theorem openCommand_passes (ha : (s.slot c).state = .active) (hm : s.master = some c) (hw : NamesWindow e w)
    (hd : (s.window w).state ≠ .undefined) (h : (s.window w).state ≠ .draining) :
    openCommand c e s = windowDone w (s.openEffect w) := by
  unfold openCommand
  rw [answer_windowChecks ha hm hw hd, windowField_of_names hw]
  exact answer_pass _ (by simpa using h)

/-- A grant pass with no upgrader and an empty wait list has nothing to grant (R48). -/
theorem grantPass_of_empty (hu : (s.claim w).upgrader = none) (hl : (s.claim w).waitList = []) : s.grantPass w = s := by
  simp [State.grantPass, State.grantSteps, hu, hl]

/-- OPEN of a CLOSED window on which nothing waits makes it OPEN and grants nothing (R11). -/
theorem openCommand_opens (ha : (s.slot c).state = .active) (hm : s.master = some c) (hw : NamesWindow e w)
    (h : (s.window w).state = .closed) (hl : (s.claim w).waitList = []) (hu : (s.claim w).upgrader = none) :
    openCommand c e s =
      (s.setWindowState w .opened, Reply.success .ok (bitsAt 0 8 w.val ||| bitsAt 8 2 2) 0) := by
  have heff : s.openEffect w = s.setWindowState w .opened := by
    unfold State.openEffect
    rw [if_pos h]
    exact grantPass_of_empty hu hl
  rw [openCommand_passes ha hm hw (by simp [h]) (by simp [h]), heff]
  simp [windowDone, windowReply, State.setWindowState, WindowState.code]

/-- OPEN of an OPEN window changes nothing (R11). -/
theorem openCommand_opened (ha : (s.slot c).state = .active) (hm : s.master = some c) (hw : NamesWindow e w)
    (h : (s.window w).state = .opened) :
    openCommand c e s = (s, Reply.success .ok (bitsAt 0 8 w.val ||| bitsAt 8 2 2) 0) := by
  rw [openCommand_passes ha hm hw (by simp [h]) (by simp [h])]
  simp [windowDone, windowReply, State.openEffect, h, WindowState.code]

end

/-- Settles O35: by the range, state and overlap checks of DEFINE, in that order. -/
theorem defineWritesDefinition : Obligations.DefineWritesDefinition := by
  unfold Obligations.DefineWritesDefinition
  rintro s c e ⟨⟨htake, ha⟩, hm⟩
  have hexec := runCommand_of_takes htake defineCommand
  refine ⟨fun h => ⟨_, hexec, onlyAnswered_of_command
    (defineCommand_badParam ha hm (h.imp_right definition_eq_none))⟩, ?_⟩
  intro w size target share foreign hw hsize htarget hshare hforeign hlow hhigh hmod hgrace hlimit
  have hd := definition_of_fields hsize htarget hshare hforeign
    (baseInRange_iff.mpr ⟨hlow, hhigh, hmod⟩) hgrace hlimit
  refine ⟨_, hexec, fun hbusy => onlyAnswered_of_command (defineCommand_busy ha hm hw hd hbusy), fun hfree =>
    ⟨fun hapart => ?_, fun v hv hdef hlo hhi => ?_⟩⟩
  · rw [defineCommand_writes (s := s.popCommand c) ha hm hw hd rfl hfree
      (overlapsOther_eq_false.mpr fun v hv hdef => ?_)]
    · exact ⟨answeredInTables_of_beside e _ (setWindow_beside ..), (State.window_setWindow ..).trans (if_pos rfl),
        fun v hv => (State.window_setWindow ..).trans (if_neg hv), rfl, rfl, rfl⟩
    · have h := hapart v hv (WindowRecord.isDefined_iff.mp hdef)
      rw [← Bool.not_eq_true, overlaps_eq_true]
      dsimp only [window_popCommand]
      omega
  · refine onlyAnswered_of_command (defineCommand_overlap ha hm hw hd hfree (overlapsOther_eq_true hv hdef ?_))
    exact overlaps_eq_true.mpr ⟨hlo, hhi⟩

/-- Settles O36: by the state of the window, CLOSED, OPEN or DRAINING. -/
theorem undefineAndOpenEffect : Obligations.UndefineAndOpenEffect := by
  unfold Obligations.UndefineAndOpenEffect
  intro s c e w hw
  have written := fun x : WindowRecord => (State.window_setWindow (s.popCommand c) w x w).trans (if_pos rfl)
  have others := fun (x : WindowRecord) v (hv : v ≠ w) =>
    (State.window_setWindow (s.popCommand c) w x v).trans (if_neg hv)
  constructor
  · rintro ⟨⟨htake, ha⟩, hm⟩
    refine ⟨_, runCommand_of_takes htake undefineCommand, fun hc => ?_, fun hbusy => ?_⟩
    · rw [undefineCommand_clears (s := s.popCommand c) ha hm hw hc]
      exact ⟨answeredInTables_of_beside e _ (setWindow_beside ..), written _, others _, rfl, rfl, rfl⟩
    · exact onlyAnswered_of_command (undefineCommand_busy ha hm hw hbusy)
  · rintro ⟨⟨htake, ha⟩, hm⟩
    refine ⟨_, runCommand_of_takes htake openCommand, fun hc hl hu => ?_, fun ho => ?_, fun hdr => ?_⟩
    · rw [openCommand_opens (s := s.popCommand c) ha hm hw hc hl hu]
      exact ⟨answeredInTables_of_beside e _ (setWindow_beside ..), written _, others _, rfl, rfl, rfl⟩
    · exact onlyAnswered_of_command (openCommand_opened ha hm hw ho)
    · exact onlyAnswered_of_command (openCommand_draining ha hm hw hdr)

end Sys2Proof.Machine
end

section
/-! SUPPORT. CLOSE: the withdrawal of the waiting claims and the recall of the holds (R12, R95, R102, R103). -/

namespace Sys2Proof.Machine

/-! ### One record retired (R34) -/

@[simp] theorem record_retire (s : State) (r q : RecordId) :
    (s.retire r).record q = if q = r then ClaimRecord.cleared else s.record q := by
  simp [State.retire]

@[simp] theorem claim_retire (s : State) (r : RecordId) (v : WindowId) :
    (s.retire r).claim v = if v = (s.record r).window then (s.record r).leave r (s.claim v) else s.claim v := by
  by_cases h : v = (s.record r).window
  · subst h
    simp [State.retire]
  · simp [State.retire, h]

/-! ### The waiting claims of a window, withdrawn in order (R102 step 1) -/

/-- The WITHDRAWN notices to the slots of these waiting records, in order. -/
def withdrawPosts (w : WindowId) (s : State) (l : List RecordId) : List (SlotId × Subject × NoticeBody) :=
  l.map fun r => ((s.record r).slot, .window w, .withdrawn .closing)

/-- The waiting records `l` of window `w` have been withdrawn, and `rest` is left of its wait list. -/
structure WaitersWithdrawn (w : WindowId) (l rest : List RecordId) (s t : State) : Prop where
  beside : SameBesideClaims s t
  windows : t.windows = s.windows
  otherClaims : ∀ v, v ≠ w → t.claim v = s.claim v
  waitList : (t.claim w).waitList = rest
  record : ∀ r, t.record r = if r ∈ l then ClaimRecord.cleared else s.record r
  posted : Posted s t (withdrawPosts w s l)

theorem withdrawPosts_congr {w : WindowId} {s t : State} {l : List RecordId}
    (h : ∀ r ∈ l, t.record r = s.record r) :
    withdrawPosts w t l = withdrawPosts w s l :=
  List.map_congr_left fun r hr => by rw [h r hr]

theorem withdrawForClose_posted (w : WindowId) (s : State) (r : RecordId) :
    Posted s (State.withdrawForClose w s r) (withdrawPosts w s [r]) :=
  posted_post (s.retire r) (s.record r).slot (.window w) (.withdrawn .closing)

/-- CLOSE withdraws the front of the wait list one by one (R102 step 1). -/
theorem foldl_withdrawForClose {w : WindowId} {rest : List RecordId} :
    ∀ (l : List RecordId) (s : State), l.Nodup →
      (∀ r ∈ l, (s.record r).phase = .waiting ∧ (s.record r).window = w) → (s.claim w).waitList = l ++ rest →
      WaitersWithdrawn w l rest s (l.foldl (State.withdrawForClose w) s)
  | [], s, _, _, hlist =>
    ⟨.refl s, rfl, fun _ _ => rfl, hlist, fun _ => by simp, .of_queues fun _ => rfl⟩
  | r :: l, s, hnodup, hwait, hlist => by
    obtain ⟨hr, hl⟩ := List.nodup_cons.mp hnodup
    obtain ⟨⟨hphase, hwindow⟩, hwait⟩ := List.forall_mem_cons.mp hwait
    have hne : ∀ q ∈ l, q ≠ r := fun q hq h => hr (h ▸ hq)
    have kept : ∀ q ∈ l, (State.withdrawForClose w s r).record q = s.record q := fun q hq => by
      simp [State.withdrawForClose, hne q hq]
    have ih := foldl_withdrawForClose (rest := rest) l (State.withdrawForClose w s r) hl
      (fun q hq => by rw [kept q hq]; exact hwait q hq)
      (by simp [State.withdrawForClose, hwindow, ClaimRecord.leave, hphase, hlist])
    have hbeside := withdrawForClose_beside w s r
    refine ⟨hbeside.trans ih.beside, ih.windows.trans (withdrawForClose_windows w s r), fun v hv => ?_, ih.waitList,
      fun q => ?_, ?_⟩
    · rw [List.foldl_cons, ih.otherClaims v hv]
      simp [State.withdrawForClose, hwindow, hv]
    · rw [List.foldl_cons, ih.record q]
      by_cases hq : q = r <;> simp [State.withdrawForClose, hq]
    · have hposts := ih.posted
      rw [withdrawPosts_congr kept] at hposts
      exact (withdrawForClose_posted w s r).append hposts hbeside.slot

/-! ### The holds of a window, recalled in order (R95, R102 step 3) -/

/-- The RECALLED notices to the slots of those of these holds that are not RECALLED yet, in order. -/
def recallPosts (w : WindowId) (upgrader : Option SlotId) (s : State) (l : List RecordId) :
    List (SlotId × Subject × NoticeBody) :=
  (l.filter fun r => decide ((s.record r).phase ≠ .recalled)).map fun r =>
    ((s.record r).slot, .window w,
      .recalled (s.window w).recallLimit (decide (upgrader = some (s.record r).slot)))

theorem recallPosts_congr {w : WindowId} {u : Option SlotId} {s t : State} {l : List RecordId}
    (h : ∀ r ∈ l, t.record r = s.record r) (hw : t.window w = s.window w) :
    recallPosts w u t l = recallPosts w u s l := by
  unfold recallPosts
  rw [hw, List.filter_congr fun r hr => by rw [h r hr]]
  exact List.map_congr_left fun r hr => by rw [h r (List.mem_of_mem_filter hr)]

theorem recallPosts_append (w : WindowId) (u : Option SlotId) (s : State) (k l : List RecordId) :
    recallPosts w u s (k ++ l) = recallPosts w u s k ++ recallPosts w u s l := by
  simp [recallPosts]

/-- The record of a hold on a window with this recall limit, once it is RECALLED. -/
def ClaimRecord.recall (c : ClaimRecord) (limit : BitVec 8) : ClaimRecord :=
  if c.phase = .recalled then c else { c with phase := .recalled, counter := limit.setWidth 16 }

/-- The holds `l` on window `w` have been recalled. -/
structure HoldsRecalled (w : WindowId) (upgrader : Option SlotId) (l : List RecordId) (s t : State) : Prop where
  beside : SameBesideClaims s t
  windows : t.windows = s.windows
  claims : ∀ v, t.claim v = s.claim v
  record : ∀ r, t.record r = if r ∈ l then (s.record r).recall (s.window w).recallLimit else s.record r
  posted : Posted s t (recallPosts w upgrader s l)

theorem recallHold_recalled (w : WindowId) (u : Option SlotId) (s : State) (r : RecordId) :
    HoldsRecalled w u [r] s (State.recallHold w u s r) where
  beside := recallHold_beside w u s r
  windows := recallHold_windows w u s r
  claims v := by
    unfold State.recallHold
    split <;> simp [State.setPhase]
  record q := by
    unfold State.recallHold
    by_cases hq : q = r <;> by_cases h : (s.record r).phase = .recalled <;>
      simp [hq, h, State.setPhase, ClaimRecord.recall]
  posted := by
    unfold State.recallHold
    split
    · next h =>
      simpa [recallPosts, h] using Posted.of_queues fun _ => rfl
    · next h =>
      have hposts : recallPosts w u s [r] = [((s.record r).slot, .window w,
          .recalled (s.window w).recallLimit (decide (u = some (s.record r).slot)))] := by simp [recallPosts, h]
      rw [hposts]
      exact posted_post (s.setPhase r .recalled _) _ _ _

theorem foldl_recallHold {w : WindowId} {u : Option SlotId} :
    ∀ (l : List RecordId) (s : State), l.Nodup → HoldsRecalled w u l s (l.foldl (State.recallHold w u) s)
  | [], s, _ => ⟨.refl s, rfl, fun _ => rfl, fun _ => by simp, .of_queues fun _ => rfl⟩
  | r :: l, s, hnodup => by
    obtain ⟨hr, hl⟩ := List.nodup_cons.mp hnodup
    have hone := recallHold_recalled w u s r
    have ih := foldl_recallHold (w := w) (u := u) l (State.recallHold w u s r) hl
    have kept : ∀ q ∈ l, (State.recallHold w u s r).record q = s.record q := fun q hq => by
      have hne : q ≠ r := fun h => hr (h ▸ hq)
      simp [hone.record, hne]
    have hwindow : (State.recallHold w u s r).window w = s.window w := by simp only [State.window, hone.windows]
    refine ⟨hone.beside.trans ih.beside, ih.windows.trans hone.windows, fun v => (ih.claims v).trans (hone.claims v),
      fun q => ?_, ?_⟩
    · rw [List.foldl_cons, ih.record q, hwindow, hone.record q]
      by_cases hq : q = r
      · simp [hq, hr]
      · simp [hq]
    · have hposts := ih.posted
      rw [recallPosts_congr kept hwindow] at hposts
      exact recallPosts_append w u s [r] l ▸ hone.posted.append hposts hone.beside.slot

theorem holders_nodup (s : State) (w : WindowId) : (s.holders w).Nodup := (List.nodup_finRange 128).filter _

/-- The holders of a window are recalled, all of them (R95, R102 step 3). -/
theorem recallHolds_recalled (s : State) (w : WindowId) (u : Option SlotId) :
    HoldsRecalled w u (s.holders w) s (s.recallHolds w u) := foldl_recallHold _ s (holders_nodup s w)

/-! ### CLOSE of an OPEN window (R12, R102) -/

/-- CLOSE has closed the unheld window `w` (R103). -/
structure ClosedAtOnce (w : WindowId) (s t : State) : Prop where
  beside : SameBesideClaims s t
  window : t.window w = { s.window w with state := .closed }
  claim : t.claim w = { s.claim w with upgrader := none }
  others : SameOtherWindows w s t
  records : t.records = s.records
  posted : Posted s t (toMaster s none (.window w) .windowClosed)

/-- A window with neither waiting claims nor holds is CLOSED at once (R103). -/
theorem closeOpen_unheld {s : State} {w : WindowId} (hl : (s.claim w).waitList = []) (hh : s.holders w = []) :
    ClosedAtOnce w s (s.closeOpen w) := by
  have hclose : s.closeOpen w =
      ((s.setClaim w { s.claim w with upgrader := none }).setWindow w { s.window w with state := .closed }).postToMaster
        none (.window w) .windowClosed := by
    unfold State.closeOpen
    rw [hl]
    exact if_pos hh
  rw [hclose]
  refine ⟨((setClaim_beside ..).trans (setWindow_beside ..)).trans (postToMaster_beside ..), by simp, by simp,
    ⟨fun v hv => ?_, fun v hv => ?_⟩, (postToMaster_tables ..).records, ?_⟩
  · simp [hv]
  · simp [hv]
  · exact posted_postToMaster (State.setWindow ..) none (.window w) .windowClosed

/-- What CLOSE leaves of a record: a waiting claim on the window is gone, a hold on it is RECALLED (R102). -/
def ClaimRecord.afterClose (c : ClaimRecord) (w : WindowId) (limit : BitVec 8) : ClaimRecord :=
  if c.window ≠ w then c
  else if c.phase = .waiting then .cleared
  else if c.phase = .held ∨ c.phase = .lapsing then { c with phase := .recalled, counter := limit.setWidth 16 }
  else c

/-- CLOSE has drained the held window `w`. -/
structure Drained (w : WindowId) (s t : State) : Prop where
  beside : SameBesideClaims s t
  window : t.window w = { s.window w with state := .draining }
  claim : t.claim w = WindowClaims.cleared
  others : SameOtherWindows w s t
  record : ∀ r, t.record r = (s.record r).afterClose w (s.window w).recallLimit
  posted : Posted s t
    (withdrawPosts w s (s.claim w).waitList ++ recallPosts w (s.claim w).upgrader s (s.holders w))

/-- CLOSE has withdrawn the waiting claims of window `w` and cleared its upgrader (R102 steps 1 and 2). -/
def State.withoutWaiters (s : State) (w : WindowId) : State :=
  let s1 := (s.claim w).waitList.foldl (State.withdrawForClose w) s
  s1.setClaim w { s1.claim w with upgrader := none }

/-- With a hold left, CLOSE goes on from there to recall the holds and drain the window (R102 steps 3 to 5). -/
theorem closeOpen_of_holders {s : State} {w : WindowId} (h : (s.withoutWaiters w).holders w ≠ []) :
    s.closeOpen w =
      (((s.withoutWaiters w).recallHolds w (s.claim w).upgrader).setClaim w
        { ((s.withoutWaiters w).recallHolds w (s.claim w).upgrader).claim w with marker := .idle }).setWindowState w
          .draining := if_neg h

section
variable {s : State} {w : WindowId}

theorem withoutWaiters_withdrawn (h : WaitListsLawful s) :
    WaitersWithdrawn w (s.claim w).waitList [] s (s.withoutWaiters w) := by
  obtain ⟨hnodup, hmem⟩ := h w
  have h1 := foldl_withdrawForClose (rest := []) _ s hnodup (fun r hr => (hmem r).mp hr) (List.append_nil _).symm
  refine ⟨h1.beside.trans (setClaim_beside ..), h1.windows, fun v hv => ?_, ?_, h1.record, h1.posted⟩
  · simp [State.withoutWaiters, hv, h1.otherClaims v hv]
  · simp [State.withoutWaiters, h1.waitList]

theorem withoutWaiters_upgrader : ((s.withoutWaiters w).claim w).upgrader = none := by
  simp [State.withoutWaiters]

/-- The waiting claims on the window are gone, and every other record stays. -/
theorem record_withoutWaiters (h : WaitListsLawful s) (r : RecordId) :
    (s.withoutWaiters w).record r =
      if (s.record r).phase = .waiting ∧ (s.record r).window = w then ClaimRecord.cleared else s.record r := by
  simp only [(withoutWaiters_withdrawn h).record, (h w).2]

/-- A hold is no waiting claim. -/
theorem record_withoutWaiters_of_hold (h : WaitListsLawful s) {r : RecordId} (hr : s.isHoldOn w r = true) :
    (s.withoutWaiters w).record r = s.record r := by
  obtain ⟨hphase, -⟩ := isHoldOn_iff.mp hr
  refine (record_withoutWaiters h r).trans (if_neg fun hw => ?_)
  simp [hw.1, ClaimPhase.isHold] at hphase

theorem holders_withoutWaiters (h : WaitListsLawful s) : (s.withoutWaiters w).holders w = s.holders w := by
  refine List.filter_congr fun r _ => ?_
  by_cases hw : (s.record r).phase = .waiting ∧ (s.record r).window = w
  · simp [State.isHoldOn, record_withoutWaiters h, hw, ClaimRecord.cleared, ClaimPhase.isHold]
  · simp [State.isHoldOn, record_withoutWaiters h, hw]

theorem window_withoutWaiters (h : WaitListsLawful s) (v : WindowId) : (s.withoutWaiters w).window v = s.window v := by
  simp only [State.window, (withoutWaiters_withdrawn h).windows]

/-- CLOSE of a held window withdraws its waiters, recalls its holds and drains it (R102). -/
theorem closeOpen_held (h : WaitListsLawful s) (hh : s.holders w ≠ []) : Drained w s (s.closeOpen w) := by
  have h2 := withoutWaiters_withdrawn (w := w) h
  have h3 := recallHolds_recalled (s.withoutWaiters w) w (s.claim w).upgrader
  have window3 := fun v => (by simp only [State.window, h3.windows] :
    ((s.withoutWaiters w).recallHolds w (s.claim w).upgrader).window v = (s.withoutWaiters w).window v)
  rw [holders_withoutWaiters h] at h3
  rw [closeOpen_of_holders (by rwa [holders_withoutWaiters h])]
  refine ⟨?_, ?_, ?_, ⟨fun v hv => ?_, fun v hv => ?_⟩, fun r => ?_, ?_⟩
  · exact ((h2.beside.trans h3.beside).trans (setClaim_beside ..)).trans (setWindow_beside ..)
  · simp [State.setWindowState, window3, window_withoutWaiters h]
  · simp [State.setWindowState, h3.claims, h2.waitList, withoutWaiters_upgrader, WindowClaims.cleared]
  · simp [State.setWindowState, hv, window3, window_withoutWaiters h]
  · simp [State.setWindowState, hv, h3.claims, h2.otherClaims v hv]
  · show ((s.withoutWaiters w).recallHolds w _).record r = _
    rw [h3.record, window_withoutWaiters h, record_withoutWaiters h]
    by_cases hw : (s.record r).window = w
    · cases hp : (s.record r).phase <;>
        simp [isHoldOn_iff, hw, hp, ClaimRecord.afterClose, ClaimRecord.recall, ClaimPhase.isHold]
    · simp [isHoldOn_iff, hw, ClaimRecord.afterClose]
  · have hposts := h3.posted
    rw [recallPosts_congr (s := s) (fun r hr => record_withoutWaiters_of_hold h (mem_holders.mp hr))
      (window_withoutWaiters h w)] at hposts
    exact h2.posted.append hposts h2.beside.slot

end

section
variable {s : State} {c : SlotId} {e : CommandEntry} {w : WindowId}

/-- CLOSE that passes the common checks has the effect of R12. -/
theorem closeCommand_passes (ha : (s.slot c).state = .active) (hm : s.master = some c) (hw : NamesWindow e w)
    (hd : (s.window w).state ≠ .undefined) : closeCommand c e s = windowDone w (s.closeEffect w) := by
  unfold closeCommand
  rw [← List.append_nil (windowChecks c e s), answer_windowChecks ha hm hw hd, windowField_of_names hw, answer_nil]

/-- CLOSE of a window that is not OPEN changes nothing (R12). -/
theorem closeCommand_notOpened (ha : (s.slot c).state = .active) (hm : s.master = some c) (hw : NamesWindow e w)
    (hd : (s.window w).state ≠ .undefined) (h : (s.window w).state ≠ .opened) :
    closeCommand c e s = (s, Reply.success .ok (bitsAt 0 8 w.val ||| bitsAt 8 2 (s.window w).state.code) 0) := by
  rw [closeCommand_passes ha hm hw hd, State.closeEffect, if_neg h]
  rfl

theorem closeCommand_opened (ha : (s.slot c).state = .active) (hm : s.master = some c) (hw : NamesWindow e w)
    (h : (s.window w).state = .opened) :
    closeCommand c e s =
      (s.closeOpen w,
        Reply.success .ok (bitsAt 0 8 w.val ||| bitsAt 8 2 ((s.closeOpen w).window w).state.code) 0) := by
  rw [closeCommand_passes ha hm hw (by simp [h]), State.closeEffect, if_pos h]
  rfl

end

theorem toMaster_of_master {s : State} {m : SlotId} (h : s.master = some m) (x : Subject) (b : NoticeBody) :
    toMaster s none x b = [(m, x, b)] := by
  simp [toMaster, h]

/-- Settles O37: CLOSE of a window that is not OPEN, of an OPEN one without holds, and of a held one. -/
theorem closeEffect : Obligations.CloseEffect := by
  unfold Obligations.CloseEffect
  rintro s c e w hlaws ⟨⟨htake, ha⟩, hm⟩ hw hd
  refine ⟨_, runCommand_of_takes htake closeCommand, fun hno => ?_, fun ho hh hl => ?_, fun ho hh => ?_⟩
  · exact onlyAnswered_of_command (closeCommand_notOpened (s := s.popCommand c) ha hm hw hd hno)
  · have hclosed := closeOpen_unheld (s := s.popCommand c) hl hh
    rw [closeCommand_opened (s := s.popCommand c) ha hm hw ho, hclosed.window]
    exact ⟨answeredInTables_of_beside e _ hclosed.beside, hclosed.window, hclosed.claim,
      ⟨hclosed.others.windows, hclosed.others.claims⟩, hclosed.records,
      toMaster_of_master (s := s) hm .. ▸ hclosed.posted⟩
  · have hclosed := closeOpen_held (s := s.popCommand c) hlaws.waitLists hh
    rw [closeCommand_opened (s := s.popCommand c) ha hm hw ho, hclosed.window]
    exact ⟨answeredInTables_of_beside e _ hclosed.beside, hclosed.window, hclosed.claim,
      ⟨hclosed.others.windows, hclosed.others.claims⟩, hclosed.record, hclosed.posted⟩

end Sys2Proof.Machine
end

section
/-! SUPPORT. The fields of the query views (10.9), and the queries (R17, R143, R167, R168). -/

namespace Sys2Proof.Machine

/-! ### Fields of a word -/

/-- Bit by bit, a field holds the low bits of its value at its place. -/
theorem getLsbD_bitsAt (lo width v i : Nat) :
    (bitsAt lo width v).getLsbD i =
      (decide (i < 32) && (decide (lo ≤ i) && (decide (i - lo < width) && v.testBit (i - lo)))) := by
  simp [bitsAt, BitVec.getLsbD_ofNat, Nat.testBit_mul_two_pow, Nat.testBit_mod_two_pow]

/-- A field reads back as its value. -/
@[simp] theorem extractLsb'_bitsAt_same {lo width : Nat} (h : lo + width ≤ 32) (v : Nat) :
    (bitsAt lo width v).extractLsb' lo width = BitVec.ofNat width v := by
  refine BitVec.eq_of_getLsbD_eq fun i hi => ?_
  have hlt : lo + i < 32 := by omega
  rw [BitVec.getLsbD_extractLsb', getLsbD_bitsAt, BitVec.getLsbD_ofNat]
  simp [hi, hlt]

/-- A field reads 0 where it does not reach. -/
@[simp] theorem extractLsb'_bitsAt_apart {lo width lo' width' : Nat} (h : lo + width ≤ lo' ∨ lo' + width' ≤ lo)
    (v : Nat) : (bitsAt lo width v).extractLsb' lo' width' = 0 := by
  refine BitVec.eq_of_getLsbD_eq fun i hi => ?_
  have hout : lo ≤ lo' + i → ¬lo' + i - lo < width := by omega
  rw [BitVec.getLsbD_extractLsb', getLsbD_bitsAt]
  by_cases hlo : lo ≤ lo' + i <;> simp [hlo, hout]

@[simp] theorem extractLsb'_bitAt_apart {lo lo' width' : Nat} (h : lo + 1 ≤ lo' ∨ lo' + width' ≤ lo) (b : Bool) :
    (bitAt lo b).extractLsb' lo' width' = 0 := extractLsb'_bitsAt_apart h _

@[simp] theorem getElem_bitsAt_apart {lo width i : Nat} (hi : i < 32) (h : i < lo ∨ lo + width ≤ i) (v : Nat) :
    (bitsAt lo width v)[i] = false := by
  have hout : lo ≤ i → ¬i - lo < width := by omega
  rw [← BitVec.getLsbD_eq_getElem, getLsbD_bitsAt]
  by_cases hlo : lo ≤ i <;> simp [hlo, hout]

/-- A one-bit field reads back as its flag. -/
@[simp] theorem getElem_bitAt_same {lo : Nat} (h : lo < 32) (b : Bool) : (bitAt lo b)[lo] = b := by
  rw [bitAt, ← BitVec.getLsbD_eq_getElem, getLsbD_bitsAt]
  cases b <;> simp [h]

@[simp] theorem getElem_bitAt_apart {lo i : Nat} (hi : i < 32) (h : i ≠ lo) (b : Bool) : (bitAt lo b)[i] = false :=
  getElem_bitsAt_apart hi (by omega) _

/-! ### View DEFINITION (10.9) -/

theorem word1_fields (d : WindowRecord) :
    d.word1.extractLsb' 0 16 = d.lease ∧ d.word1.extractLsb' 16 8 = d.grace ∧
      d.word1.extractLsb' 24 8 = d.recallLimit := by
  simp [WindowRecord.word1, BitVec.extractLsb'_or]

theorem extractLsb'_baseMask (x : Word) : (x &&& 0xFFFFF000#32).extractLsb' 12 20 = x.extractLsb' 12 20 := by
  rw [BitVec.extractLsb'_and]
  exact BitVec.and_allOnes

theorem word2_fields (d : WindowRecord) :
    d.word2.extractLsb' 12 20 = d.base.extractLsb' 12 20 ∧
      d.word2.extractLsb' 0 4 = BitVec.ofNat 4 d.sizeCode.val ∧
      d.word2.extractLsb' 4 3 = BitVec.ofNat 3 d.target.val ∧
      d.word2.extractLsb' 7 2 = BitVec.ofNat 2 d.share.code ∧
      d.word2.extractLsb' 9 2 = BitVec.ofNat 2 d.foreign.code ∧
      d.word2.getLsbD 11 = d.renewOnAccess := by
  refine ⟨?_, ?_, ?_, ?_, ?_, ?_⟩
  · simp [WindowRecord.word2, BitVec.extractLsb'_or, extractLsb'_baseMask]
  all_goals simp [WindowRecord.word2, BitVec.extractLsb'_or, BitVec.extractLsb'_and]

theorem windowExt_fields (d : WindowRecord) (view : Bool) :
    (windowExt d view).extractLsb' 0 2 = BitVec.ofNat 2 d.state.code ∧ (windowExt d view).getLsbD 2 = view ∧
      (windowExt d view).extractLsb' 3 8 = 0 := by
  simp [windowExt, BitVec.extractLsb'_or, BitVec.extractLsb'_setWidth_of_le]

/-! ### View CLAIMS (10.9) -/

theorem ownRecordWord_none {s : State} {n : SlotId} {w : WindowId} (h : s.recordOf n w = none) :
    s.ownRecordWord n w = 0 := by
  simp [State.ownRecordWord, h]

theorem ownRecordWord_fields {s : State} {n : SlotId} {w : WindowId} {r : RecordId} (h : s.recordOf n w = some r) :
    (s.ownRecordWord n w).extractLsb' 0 16 = (s.record r).counter ∧
      (s.ownRecordWord n w).extractLsb' 16 7 = BitVec.ofNat 7 r.val ∧
      (s.ownRecordWord n w).extractLsb' 23 1 = BitVec.ofNat 1 (s.record r).mode.code ∧
      (s.ownRecordWord n w).extractLsb' 24 3 = BitVec.ofNat 3 (s.record r).phase.code ∧
      (s.ownRecordWord n w).extractLsb' 27 4 =
        (if (s.record r).phase = .waiting then BitVec.ofNat 4 ((s.claim w).waitList.idxOf r + 1) else 0) ∧
      (s.ownRecordWord n w).getLsbD 31 = false := by
  refine ⟨?_, ?_, ?_, ?_, ?_, ?_⟩
  case refine_5 =>
    by_cases hp : (s.record r).phase = .waiting <;>
      simp [State.ownRecordWord, h, BitVec.extractLsb'_or, State.position, hp]
  all_goals simp [State.ownRecordWord, h, BitVec.extractLsb'_or]

/-- The recall bits stand in bits 14:10 (R167). -/
@[simp] theorem extractLsb'_markerWord_apart {lo width : Nat} (h : lo + width ≤ 10 ∨ 15 ≤ lo) (k : RecallMarker) :
    k.word.extractLsb' lo width = 0 := by
  rcases k with _ | _ | b <;> simp (disch := omega) [RecallMarker.word, BitVec.extractLsb'_or]

@[simp] theorem getElem_markerWord_apart {i : Nat} (hi : i < 32) (h : i < 10 ∨ 15 ≤ i) (k : RecallMarker) :
    k.word[i] = false := by
  rcases k with _ | _ | b <;> simp (disch := omega) [RecallMarker.word]

theorem markerWord_inProgress (k : RecallMarker) : k.word[10] = decide (k ≠ .idle) := by
  rcases k with _ | _ | b <;> simp [RecallMarker.word]

theorem markerWord_beneficiary (b : SlotId) :
    (RecallMarker.inProgress (some b)).word[11] = true ∧
      (RecallMarker.inProgress (some b)).word.extractLsb' 12 3 = BitVec.ofNat 3 b.val := by
  simp [RecallMarker.word, BitVec.extractLsb'_or]

theorem markerWord_noBeneficiary {k : RecallMarker} (h : ∀ b, k ≠ .inProgress (some b)) :
    k.word.extractLsb' 11 4 = 0 := by
  rcases k with _ | _ | b
  · simp [RecallMarker.word]
  · simp [RecallMarker.word]
  · exact absurd rfl (h b)

/-- The upgrader bits stand in bits 18:15 (R167). -/
@[simp] theorem extractLsb'_upgraderWord_apart {lo width : Nat} (h : lo + width ≤ 15 ∨ 19 ≤ lo)
    (u : Option SlotId) : (upgraderWord u).extractLsb' lo width = 0 := by
  cases u <;> simp (disch := omega) [upgraderWord, BitVec.extractLsb'_or]

@[simp] theorem getElem_upgraderWord_apart {i : Nat} (hi : i < 32) (h : i < 15 ∨ 19 ≤ i) (u : Option SlotId) :
    (upgraderWord u)[i] = false := by
  cases u <;> simp (disch := omega) [upgraderWord]

theorem upgraderWord_some (n : SlotId) :
    (upgraderWord (some n))[15] = true ∧ (upgraderWord (some n)).extractLsb' 16 3 = BitVec.ofNat 3 n.val := by
  simp [upgraderWord, BitVec.extractLsb'_or]

theorem holderMode_field (s : State) (w : WindowId) :
    BitVec.ofNat 2 (s.holderMode w) = if s.holders w = [] then 0 else if s.allShared w = true then 1 else 2 := by
  unfold State.holderMode
  split
  · rfl
  · split <;> rfl

theorem claimsWord_fields (s : State) (w : WindowId) :
    (s.claimsWord w).extractLsb' 0 4 = BitVec.ofNat 4 (s.holders w).length ∧
      (s.claimsWord w).extractLsb' 4 2 =
        (if s.holders w = [] then 0 else if s.allShared w = true then 1 else 2) ∧
      (s.claimsWord w).extractLsb' 6 4 = BitVec.ofNat 4 (s.claim w).waitList.length ∧
      (s.claimsWord w).getLsbD 10 = decide ((s.claim w).marker ≠ .idle) ∧
      (∀ b, (s.claim w).marker = .inProgress (some b) →
        (s.claimsWord w).getLsbD 11 = true ∧ (s.claimsWord w).extractLsb' 12 3 = BitVec.ofNat 3 b.val) ∧
      ((∀ b, (s.claim w).marker ≠ .inProgress (some b)) → (s.claimsWord w).extractLsb' 11 4 = 0) ∧
      (∀ u, (s.claim w).upgrader = some u →
        (s.claimsWord w).getLsbD 15 = true ∧ (s.claimsWord w).extractLsb' 16 3 = BitVec.ofNat 3 u.val) ∧
      ((s.claim w).upgrader = none → (s.claimsWord w).extractLsb' 15 4 = 0) ∧
      (s.claimsWord w).extractLsb' 19 13 = 0 := by
  refine ⟨?_, ?_, ?_, ?_, fun b hb => ?_, fun hb => ?_, fun u hu => ?_, fun hu => ?_, ?_⟩
  · simp [State.claimsWord, BitVec.extractLsb'_or]
  · rw [← holderMode_field]
    simp [State.claimsWord, BitVec.extractLsb'_or]
  · simp [State.claimsWord, BitVec.extractLsb'_or]
  · simp [State.claimsWord, markerWord_inProgress]
  · simp [State.claimsWord, BitVec.extractLsb'_or, hb, markerWord_beneficiary b]
  · simp [State.claimsWord, BitVec.extractLsb'_or, markerWord_noBeneficiary hb]
  · simp [State.claimsWord, BitVec.extractLsb'_or, hu, upgraderWord_some u]
  · simp [State.claimsWord, BitVec.extractLsb'_or, hu, upgraderWord]
  · simp [State.claimsWord, BitVec.extractLsb'_or]

/-! ### QUERY_SLOT's result (R168) -/

theorem slotExt_fields (s : State) (n : SlotId) :
    (slotExt s n).extractLsb' 0 2 = BitVec.ofNat 2 (s.slot n).state.code ∧
      (slotExt s n).extractLsb' 2 3 = BitVec.ofNat 3 (s.slot n).exitReason.code ∧
      (slotExt s n).extractLsb' 5 6 = BitVec.ofNat 6 (s.inUse n) := by
  simp [slotExt, BitVec.extractLsb'_or, BitVec.extractLsb'_setWidth_of_le]

theorem slotWord_fields (s : State) (n : SlotId) :
    (s.slotWord n).extractLsb' 0 16 = (s.slot n).silence ∧ (s.slotWord n).extractLsb' 16 8 = (s.slot n).slotClass ∧
      (s.slotWord n).extractLsb' 24 7 = BitVec.ofNat 7 (s.slot n).quota ∧
      (s.slotWord n).getLsbD 31 = decide (s.master = some n) := by
  simp [State.slotWord, BitVec.extractLsb'_or]

/-! ### The queries -/

section
variable {s : State} {c : SlotId} {e : CommandEntry}

/-- A query of a window answers with the view that the view flag chooses (R17). -/
theorem queryWindowCommand_views (hs : (s.slot c).state ≠ .absent) {w : WindowId} (hw : NamesWindow e w) :
    queryWindowCommand c e s = (s, windowView c w (flagBit e.param0 8) s) := by
  refine ((answer_seated hs).trans (answer_window hw)).trans ?_
  rw [answer_nil, windowField_of_names hw]

/-- A view is the same after the query's entry has left its FIFO. -/
theorem windowView_popCommand (w : WindowId) (v : Bool) : windowView c w v (s.popCommand c) = windowView c w v s := rfl

theorem slotView_popCommand (n : SlotId) : slotView n (s.popCommand c) = slotView n s := rfl

/-- Either view of a window is answered OK and says in RESP0 which state the window has and which view it is (R167). -/
theorem windowView_ext (w : WindowId) (v : Bool) :
    (windowView c w v s).outcome = .ok ∧ (windowView c w v s).ext = windowExt (s.window w) v := by
  cases v <;> exact ⟨rfl, rfl⟩

/-- A caller other than the master may not name another slot (R143). -/
theorem querySlotCommand_notMaster (hs : (s.slot c).state ≠ .absent) {n : SlotId} (hn : NamesSlot e.param0 n)
    (hm : s.master ≠ some c) (hne : n ≠ c) : querySlotCommand c e s = (s, Reply.refusal .notMaster) := by
  refine (answer_seated hs).trans ((answer_pass _ ?_).trans (answer_fail _ ?_))
  · simp [slotInRange_of_names hn]
  · simp [slotField_of_names hn, hm, hne]

theorem querySlotCommand_views (hs : (s.slot c).state ≠ .absent) {n : SlotId} (hn : NamesSlot e.param0 n)
    (h : s.master = some c ∨ n = c) : querySlotCommand c e s = (s, slotView n s) := by
  refine (answer_seated hs).trans ((answer_pass _ ?_).trans ((answer_pass _ ?_).trans ?_))
  · simp [slotInRange_of_names hn]
  · rcases h with h | h <;> simp [slotField_of_names hn, h]
  · rw [answer_nil, slotField_of_names hn]

end

/-- Settles O25: by the fields of each view's words. -/
theorem queriesReportAndChangeNothing : Obligations.QueriesReportAndChangeNothing := by
  unfold Obligations.QueriesReportAndChangeNothing
  refine fun s c e hs => ⟨fun w htake hw => ?_, fun n htake hn => ?_⟩
  · have hcmd := queryWindowCommand_views (s := s.popCommand c) hs hw
    rw [windowView_popCommand] at hcmd
    refine ⟨_, _, runCommand_of_takes htake queryWindowCommand, onlyAnswered_of_command hcmd, ?_⟩
    obtain ⟨hok, hext⟩ := windowView_ext (s := s) (c := c) w (flagBit e.param0 8)
    obtain ⟨hstate, hview, hrest⟩ := windowExt_fields (s.window w) (flagBit e.param0 8)
    rw [hext]
    refine ⟨hok, hstate, hview, hrest, fun hv => ?_, fun hv => ?_⟩
    · have hflag : flagBit e.param0 8 = false := hv
      rw [hflag]
      obtain ⟨hlease, hgrace, hlimit⟩ := word1_fields (s.window w)
      exact ⟨hlease, hgrace, hlimit, word2_fields (s.window w)⟩
    · have hflag : flagBit e.param0 8 = true := hv
      rw [hflag]
      exact ⟨ownRecordWord_none, fun r => ownRecordWord_fields, claimsWord_fields s w⟩
  · have hexec := runCommand_of_takes htake querySlotCommand
    by_cases h : s.master = some c ∨ n = c
    · have hcmd := querySlotCommand_views (s := s.popCommand c) hs hn h
      rw [slotView_popCommand] at hcmd
      refine ⟨_, _, hexec, onlyAnswered_of_command hcmd, fun hm hne => absurd h (by simp [hm, hne]), fun _ => ?_⟩
      obtain ⟨hstate, hreason, huse⟩ := slotExt_fields s n
      obtain ⟨hsilence, hclass, hquota, hmaster⟩ := slotWord_fields s n
      exact ⟨rfl, hstate, hreason, huse, hsilence, hclass, hquota, hmaster, rfl⟩
    · obtain ⟨hm, hne⟩ := not_or.mp h
      exact ⟨_, _, hexec, onlyAnswered_of_command (querySlotCommand_notMaster (s := s.popCommand c) hs hn hm hne),
        fun _ _ => rfl, fun h' => absurd h' h⟩

end Sys2Proof.Machine
end

section
/-! SUPPORT. The decode of an address (R14), and the resets (R18, R19, R144, R145). -/

namespace Sys2Proof.Machine

/-! ### The decode (R14) -/

/-- The last address of a window is one below its size's end (R2). -/
theorem covers_iff {d : WindowRecord} {addr : Word} :
    d.covers addr = true ↔
      d.base.toNat ≤ addr.toNat ∧ addr.toNat ≤ d.base.toNat + 4096 * 2 ^ d.sizeCode.val - 1 := by
  have hsize : 0 < 4096 * 2 ^ d.sizeCode.val := by positivity
  simp only [WindowRecord.covers, Bool.and_eq_true, decide_eq_true_eq]
  show d.base.toNat ≤ addr.toNat ∧ addr.toNat < d.base.toNat + 4096 * 2 ^ d.sizeCode.val ↔ _
  omega

/-- Under the law of the Window Table the decode finds the one defined window that contains the address (R8, R14). -/
theorem decodeAddress_eq_some {s : State} (h : WindowsLawful s) {addr : Word} {w : WindowId} :
    s.decodeAddress addr = some w ↔ (s.window w).state ≠ .undefined ∧ (s.window w).covers addr = true := by
  constructor
  · intro hw
    simpa using List.find?_some hw
  · rintro ⟨hdef, hcov⟩
    cases hv : s.decodeAddress addr with
    | none =>
      have := List.find?_eq_none.mp hv w (mem_allWindows w)
      simp [hdef, hcov] at this
    | some v =>
      obtain ⟨hvdef, hvcov⟩ : (s.window v).isDefined = true ∧ (s.window v).covers addr = true := by
        simpa only [Bool.and_eq_true] using List.find?_some hv
      by_contra hne
      exact h.2 v w (fun hvw => hne (congrArg some hvw)) hvdef (WindowRecord.isDefined_iff.mpr hdef) addr
        ⟨hvcov, hcov⟩

theorem decodeAddress_eq_none {s : State} {addr : Word} :
    s.decodeAddress addr = none ↔ ∀ w, (s.window w).state = .undefined ∨ ¬(s.window w).covers addr = true := by
  simp [State.decodeAddress, List.find?_eq_none, mem_allWindows, or_iff_not_imp_left]

/-- Settles O44: by the uniqueness of the window that contains an address. -/
theorem addressDecode : Obligations.AddressDecode := by
  unfold Obligations.AddressDecode
  refine fun s addr h => ⟨fun w => ?_, ?_, fun n kind width => ⟨fun _ => rfl, fun hout => ?_⟩⟩
  · rw [decodeAddress_eq_some h, covers_iff]
  · rw [decodeAddress_eq_none]
    simp only [covers_iff, not_and_or, not_le]
  · show Host.Outcome.next _ = _
    rw [if_pos (.inr hout)]

/-! ### Power-on reset (R144) -/

section
variable (pres elig : BitVec 8)

@[simp] theorem record_powerOn (r : RecordId) : (State.powerOn pres elig).record r = ClaimRecord.cleared := by
  simp [State.powerOn, State.record]

@[simp] theorem claim_powerOn (w : WindowId) : (State.powerOn pres elig).claim w = WindowClaims.cleared := by
  simp [State.powerOn, State.claim]

@[simp] theorem slot_powerOn (n : SlotId) :
    (State.powerOn pres elig).slot n = SlotRecord.powerOn (pres.getLsbD n.val) := by
  simp [State.powerOn, State.slot]

@[simp] theorem port_powerOn (n : SlotId) : (State.powerOn pres elig).port n = SlotPort.cleared := by
  simp [State.powerOn, State.port]

@[simp] theorem queue_powerOn (n : SlotId) : (State.powerOn pres elig).queue n = [] := by
  simp [State.powerOn, State.queue]

end

/-- Settles O5: by the two edges of POR#. -/
theorem powerOnResetState : Obligations.PowerOnResetState := by
  unfold Obligations.PowerOnResetState
  intro s elig
  constructor
  · exact ⟨_, rfl, rfl, rfl, rfl, rfl, rfl, ⟨rfl, rfl, rfl⟩, ⟨rfl, rfl, rfl⟩, ⟨rfl, rfl, rfl, rfl⟩, rfl, rfl, rfl, rfl⟩
  · exact ⟨_, rfl, window_powerOn s.presLines elig, record_powerOn s.presLines elig, claim_powerOn s.presLines elig,
      slot_powerOn s.presLines elig, rfl, rfl, rfl, rfl, rfl, rfl, rfl, port_powerOn s.presLines elig,
      queue_powerOn s.presLines elig, rfl, rfl, rfl, rfl, rfl, rfl⟩

/-! ### Backplane reset (R145) -/

section
variable (s : State)

theorem record_backplaneReset (r : RecordId) : s.backplaneReset.record r = ClaimRecord.cleared := by
  simp [State.backplaneReset, State.record]

theorem claim_backplaneReset (w : WindowId) : s.backplaneReset.claim w = WindowClaims.cleared := by
  simp [State.backplaneReset, State.claim]

theorem slot_backplaneReset (n : SlotId) : s.backplaneReset.slot n = (s.slot n).inactiveByReset := by
  simp [State.backplaneReset, State.slot]

theorem port_backplaneReset (n : SlotId) : s.backplaneReset.port n = SlotPort.cleared := by
  simp [State.backplaneReset, State.port]

theorem queue_backplaneReset (n : SlotId) : s.backplaneReset.queue n = [] := by
  simp [State.backplaneReset, State.queue]

/-- No attention output is driven from an empty queue (R155). -/
theorem atn_backplaneReset (n : SlotId) : s.backplaneReset.atn n = false := by
  simp [State.atn, queue_backplaneReset]

end

/-- R19 for one window. -/
theorem closedByReset_eq (d : WindowRecord) :
    d.closedByReset = if d.state = .opened ∨ d.state = .draining then { d with state := .closed } else d := by
  unfold WindowRecord.closedByReset
  cases d.state <;> rfl

/-- R145 for one slot. -/
theorem inactiveByReset_eq (n : SlotRecord) :
    n.inactiveByReset =
      if n.state = .active then { n with state := .present, exitReason := .reset, silence := 0 } else n := by
  unfold SlotRecord.inactiveByReset
  cases n.state <;> rfl

/-- Settles O6: item by item. -/
theorem backplaneResetState : Obligations.BackplaneResetState := by
  unfold Obligations.BackplaneResetState
  intro s hpor
  have hexec : exec .backplaneReset s = .next s.backplaneReset := by
    show Host.Outcome.next _ = _
    simp [hpor]
  exact ⟨_, hexec, fun w => (window_backplaneReset s w).trans (closedByReset_eq _), record_backplaneReset s,
    claim_backplaneReset s, fun n => (slot_backplaneReset s n).trans (inactiveByReset_eq _), rfl, rfl, rfl,
    ⟨rfl, rfl, rfl, rfl⟩, port_backplaneReset s, queue_backplaneReset s, atn_backplaneReset s, rfl, rfl, rfl, rfl, hpor,
    rfl⟩

/-! ### The laws right after reset -/

/-- Right after reset every record is FREE. -/
theorem record_reset (r : RecordId) : State.reset.record r = ClaimRecord.cleared := record_powerOn 0 0 r

theorem claim_reset (w : WindowId) : State.reset.claim w = WindowClaims.cleared := claim_powerOn 0 0 w

/-- Right after reset every slot is ABSENT. -/
theorem slot_reset (n : SlotId) : State.reset.slot n = SlotRecord.powerOn false := by
  simp [State.reset]

theorem phase_reset (r : RecordId) : (State.reset.record r).phase = .free := by
  rw [record_reset]
  rfl

theorem claimsLawful_reset : ClaimsLawful State.reset where
  waitLists w := by simp [claim_reset, WindowClaims.cleared, phase_reset]
  pool r _ := record_reset r
  oneEach q r _ hq := absurd (phase_reset q) hq
  holders q r _ hq := by simp [phase_reset, ClaimPhase.isHold] at hq

theorem quotasLawful_reset : QuotasLawful State.reset := fun n => by
  simp [State.inUse, phase_reset]

/-- Settles O53: the tables are empty, every slot is ABSENT, and nothing is in hand. -/
theorem resetKeepsEveryLaw : Obligations.ResetKeepsEveryLaw := by
  unfold Obligations.ResetKeepsEveryLaw
  refine ⟨fun n => ?_, fun n => ?_, fun m hm => ?_, fun n => ?_, .of_cleared (window_powerOn 0 0), claimsLawful_reset,
    quotasLawful_reset, fun r hr => ?_, fun r => ?_, fun w u hu => ?_, ⟨fun w hw => ?_, fun r hr => ?_⟩, fun w hw => ?_,
    ⟨fun r hr => ?_, fun w b hb => ?_⟩, ⟨.inl rfl, fun hp => ?_⟩⟩
  · simp [State.reset]
  · simp [State.reset, SlotPort.cleared]
  · cases hm
  · simp [slot_reset, SlotRecord.powerOn]
  · simp [phase_reset] at hr
  · simp [phase_reset, ClaimPhase.isHold]
  · simp [claim_reset, WindowClaims.cleared] at hu
  · simp [claim_reset, WindowClaims.cleared] at hw
  · simp [phase_reset] at hr
  · simp [State.reset, WindowRecord.cleared] at hw
  · simp [record_reset, ClaimRecord.cleared] at hr
  · simp [claim_reset, WindowClaims.cleared] at hb
  · cases hp

end Sys2Proof.Machine
end

section
/-! SUPPORT. What the Claim Table's procedures do to one record and to one window's claim state, and the count of
records in use (R31, R32, R34, R47). -/

namespace Sys2Proof.Machine

/-! ### One record, one claim state -/

section
variable (s : State) (r q : RecordId) (v w : WindowId)

@[simp] theorem window_retire : (s.retire r).window v = s.window v := rfl

@[simp] theorem slot_retire (n : SlotId) : (s.retire r).slot n = s.slot n := rfl

@[simp] theorem record_fillRecord (n : SlotId) (phase : ClaimPhase) (mode : Mode) (tag : BitVec 8) (counter : Ticks)
    (flag : Bool) :
    (s.fillRecord r n w phase mode tag counter flag).record q =
      if q = r then { phase, slot := n, window := w, mode, tag, counter, beneficiary := flag } else s.record q := by
  simp [State.fillRecord]

@[simp] theorem claim_fillRecord (n : SlotId) (phase : ClaimPhase) (mode : Mode) (tag : BitVec 8) (counter : Ticks)
    (flag : Bool) : (s.fillRecord r n w phase mode tag counter flag).claim v = s.claim v := rfl

@[simp] theorem window_fillRecord (n : SlotId) (phase : ClaimPhase) (mode : Mode) (tag : BitVec 8) (counter : Ticks)
    (flag : Bool) : (s.fillRecord r n w phase mode tag counter flag).window v = s.window v := rfl

@[simp] theorem slot_fillRecord (n m : SlotId) (phase : ClaimPhase) (mode : Mode) (tag : BitVec 8) (counter : Ticks)
    (flag : Bool) : (s.fillRecord r n w phase mode tag counter flag).slot m = s.slot m := rfl

/-- A granted record is HELD with its window's lease and its flag clear (R47). -/
@[simp] theorem record_grant :
    (s.grant r).record q =
      if q = r then
        { s.record r with phase := .held, counter := (s.window (s.record r).window).lease, beneficiary := false }
      else s.record q := by
  simp [State.grant]

/-- A granted record leaves its window's wait list (R47). -/
@[simp] theorem claim_grant :
    (s.grant r).claim v =
      if v = (s.record r).window then { s.claim v with waitList := (s.claim v).waitList.erase r } else s.claim v := by
  by_cases h : v = (s.record r).window
  · subst h
    simp [State.grant]
  · simp [State.grant, h]

@[simp] theorem window_grant : (s.grant r).window v = s.window v := by
  simp only [State.window, grant_windows]

@[simp] theorem slot_grant (n : SlotId) : (s.grant r).slot n = s.slot n := (grant_beside s r).slot n

@[simp] theorem record_restartHold (m : Mode) :
    (s.restartHold r m).record q =
      if q = r then { s.record r with phase := .held, mode := m, counter := (s.window (s.record r).window).lease }
      else s.record q := by
  simp [State.restartHold]

@[simp] theorem claim_restartHold (m : Mode) : (s.restartHold r m).claim v = s.claim v := rfl

@[simp] theorem window_restartHold (m : Mode) : (s.restartHold r m).window v = s.window v := rfl

@[simp] theorem slot_restartHold (m : Mode) (n : SlotId) : (s.restartHold r m).slot n = s.slot n := rfl

/-- The upgrader's hold becomes EXCLUSIVE with the lease (R48 step 1). -/
@[simp] theorem record_completeUpgrade :
    (s.completeUpgrade w r).record q =
      if q = r then
        { s.record r with phase := .held, mode := .exclusive, counter := (s.window (s.record r).window).lease }
      else s.record q := by
  simp [State.completeUpgrade]

@[simp] theorem claim_completeUpgrade :
    (s.completeUpgrade w r).claim v = if v = w then { s.claim w with upgrader := none } else s.claim v := by
  simp [State.completeUpgrade]

@[simp] theorem window_completeUpgrade : (s.completeUpgrade w r).window v = s.window v := by
  simp only [State.window, completeUpgrade_windows]

@[simp] theorem slot_completeUpgrade (n : SlotId) : (s.completeUpgrade w r).slot n = s.slot n :=
  (completeUpgrade_beside s w r).slot n

@[simp] theorem record_enqueueClaim (n : SlotId) (mode : Mode) (tag : BitVec 8) (wait : Ticks) :
    (s.enqueueClaim n w mode tag wait r).record q =
      if q = r then { phase := .waiting, slot := n, window := w, mode, tag, counter := wait, beneficiary := false }
      else s.record q := by
  simp [State.enqueueClaim]

@[simp] theorem claim_enqueueClaim (n : SlotId) (mode : Mode) (tag : BitVec 8) (wait : Ticks) :
    (s.enqueueClaim n w mode tag wait r).claim v =
      if v = w then { s.claim w with waitList := (s.claim w).waitList ++ [r] } else s.claim v := by
  simp [State.enqueueClaim]

@[simp] theorem window_enqueueClaim (n : SlotId) (mode : Mode) (tag : BitVec 8) (wait : Ticks) :
    (s.enqueueClaim n w mode tag wait r).window v = s.window v := rfl

@[simp] theorem slot_enqueueClaim (n m : SlotId) (mode : Mode) (tag : BitVec 8) (wait : Ticks) :
    (s.enqueueClaim n w mode tag wait r).slot m = s.slot m := rfl

end

@[simp] theorem phase_cleared : ClaimRecord.cleared.phase = .free := rfl

@[simp] theorem beneficiary_cleared : ClaimRecord.cleared.beneficiary = false := rfl

@[simp] theorem isHold_free : ClaimPhase.free.isHold = false := rfl

@[simp] theorem isHold_waiting : ClaimPhase.waiting.isHold = false := rfl

@[simp] theorem isHold_held : ClaimPhase.held.isHold = true := rfl

@[simp] theorem isHold_lapsing : ClaimPhase.lapsing.isHold = true := rfl

@[simp] theorem isHold_recalled : ClaimPhase.recalled.isHold = true := rfl

/-- A hold is in use, and is not WAITING. -/
theorem ClaimPhase.ne_free_of_isHold {p : ClaimPhase} (h : p.isHold = true) : p ≠ .free := by
  rintro rfl
  cases h

theorem ClaimPhase.ne_waiting_of_isHold {p : ClaimPhase} (h : p.isHold = true) : p ≠ .waiting := by
  rintro rfl
  cases h

/-- A record in use is WAITING or a hold (R22). -/
theorem ClaimPhase.isHold_of_used {p : ClaimPhase} (h : p ≠ .free) (hw : p ≠ .waiting) : p.isHold = true := by
  cases p <;> first | rfl | contradiction

/-- HELD and LAPSING are the holds that are not RECALLED. -/
theorem ClaimPhase.isRenewable_iff {p : ClaimPhase} : p.isRenewable = true ↔ p.isHold = true ∧ p ≠ .recalled := by
  cases p <;> simp [ClaimPhase.isRenewable]

/-- What leaves a window's claim state when a WAITING record leaves it (R34). -/
theorem leave_waiting {c : ClaimRecord} (h : c.phase = .waiting) (r : RecordId) (k : WindowClaims) :
    c.leave r k =
      { k with
        waitList := k.waitList.erase r
        marker := if c.beneficiary then k.marker.dropBeneficiary else k.marker } := by
  simp [ClaimRecord.leave, h]

/-- What leaves a window's claim state when a hold leaves it (R34). -/
theorem leave_hold {c : ClaimRecord} (h : c.phase.isHold = true) (r : RecordId) (k : WindowClaims) :
    c.leave r k = { k with upgrader := if k.upgrader = some c.slot then none else k.upgrader } := by
  unfold ClaimRecord.leave
  split
  · next hp => simp [hp] at h
  · next hp => simp [hp] at h
  all_goals rfl

/-! ### The count of records in use (R32) -/

/-- A list without repetitions loses one member of a filter where the filter changes at that member alone. -/
theorem length_filter_add_one {α : Type} [DecidableEq α] {l : List α} (hl : l.Nodup) {a : α} (ha : a ∈ l)
    {p q : α → Bool} (hp : p a = true) (hq : q a = false) (h : ∀ x, x ≠ a → p x = q x) :
    (l.filter q).length + 1 = (l.filter p).length := by
  have hperm := List.perm_cons_erase ha
  have hrest : (l.erase a).filter p = (l.erase a).filter q :=
    List.filter_congr fun x hx => h x ((hl.mem_erase_iff).mp hx).1
  rw [(hperm.filter p).length_eq, (hperm.filter q).length_eq]
  simp [hp, hq, hrest]

/-- Where slot `n` has one record less, its count falls by one. -/
theorem inUse_add_one {s t : State} {n : SlotId} {r : RecordId}
    (hs : (s.record r).phase ≠ .free ∧ (s.record r).slot = n)
    (ht : ¬((t.record r).phase ≠ .free ∧ (t.record r).slot = n)) (h : ∀ q, q ≠ r → t.record q = s.record q) :
    t.inUse n + 1 = s.inUse n := by
  refine length_filter_add_one (List.nodup_finRange 128) (mem_allRecords r) ?_ ?_ fun q hq => ?_
  · simpa using hs
  · simpa using ht
  · rw [h q hq]

/-- The count does not rise where every record that slot `n` has in use it had in use before. -/
theorem inUse_le {s t : State} {n : SlotId}
    (h : ∀ r, (t.record r).phase ≠ .free → (t.record r).slot = n → (s.record r).phase ≠ .free ∧ (s.record r).slot = n) :
    t.inUse n ≤ s.inUse n := by
  refine (List.monotone_filter_right _ fun r hr => ?_).length_le
  simp only [Bool.and_eq_true, decide_eq_true_eq] at hr ⊢
  exact h r hr.1 hr.2

/-- The count is the same where the same records name the slot. -/
theorem inUse_eq {s t : State} {n : SlotId}
    (h : ∀ r, ((t.record r).phase ≠ .free ∧ (t.record r).slot = n) ↔
      ((s.record r).phase ≠ .free ∧ (s.record r).slot = n)) :
    t.inUse n = s.inUse n :=
  le_antisymm (inUse_le fun r h1 h2 => (h r).mp ⟨h1, h2⟩) (inUse_le fun r h1 h2 => (h r).mpr ⟨h1, h2⟩)

/-! ### Retiring a record (R34) -/

/-- The recall of a retired beneficiary runs on without one (R28). -/
theorem dropBeneficiary_eq (k : RecallMarker) : k.dropBeneficiary = if k = .idle then .idle else .inProgress none := by
  cases k <;> rfl

/-- Settles O13: by the phase of the record, which says what leaves its window. -/
theorem retiringARecord : Obligations.RetiringARecord := by
  unfold Obligations.RetiringARecord
  rintro s r _ hused rfl
  refine ⟨by simp, fun q hq => by simp [hq], rfl, ⟨fun v _ => rfl, fun v hv => by simp [hv]⟩, fun hw => ?_,
    fun hw => ?_, inUse_add_one ⟨hused, rfl⟩ (by simp) fun q hq => by simp [hq], fun n hn => inUse_eq fun q => ?_, rfl,
    retire_beside s r⟩
  · cases hflag : (s.record r).beneficiary <;> cases hk : (s.claim (s.record r).window).marker <;>
      simp [leave_waiting hw, hflag, hk, RecallMarker.dropBeneficiary]
  · simp [leave_hold (ClaimPhase.isHold_of_used hused hw)]
  · by_cases hq : q = r
    · subst hq
      simp [Ne.symm hn]
    · simp [hq]

end Sys2Proof.Machine
end

section
/-! SUPPORT. The tick at the Claim Table: the countdown and the records that run out on one window (R83 to R88). -/

namespace Sys2Proof.Machine

/-! ### Records that run out, one after another (R83 step 2) -/

/-- What the end of its last tick makes of a record in use (R84 to R87). -/
def ClaimRecord.expired (c : ClaimRecord) (grace : BitVec 8) : ClaimRecord :=
  if c.phase = .held then { c with phase := .lapsing, counter := grace.setWidth 16 } else .cleared

/-- The notice of a record in use that runs out (R84 to R87). -/
def ClaimRecord.expiryBody (c : ClaimRecord) (grace : BitVec 8) : NoticeBody :=
  match c.phase with
  | .held => .lapseWarning grace
  | .lapsing => .lapsed
  | .recalled => .forced
  | _ => .withdrawn .timedOut

/-- The notices of the records `l` of window `w` that run out, in order. -/
def expiryPosts (w : WindowId) (s : State) (l : List RecordId) : List (SlotId × Subject × NoticeBody) :=
  l.map fun r => ((s.record r).slot, .window w, (s.record r).expiryBody (s.window w).grace)

/-- The hold that record `c` is ends when it runs out: it is LAPSING or RECALLED. -/
abbrev ClaimRecord.holdEnds (c : ClaimRecord) : Prop := c.phase.isHold = true ∧ c.phase ≠ .held

/-- The records `l` of window `w` have run out. -/
structure Expired (w : WindowId) (l : List RecordId) (s t : State) : Prop where
  beside : SameBesideClaims s t
  windows : t.windows = s.windows
  otherClaims : ∀ v, v ≠ w → t.claim v = s.claim v
  record : ∀ r, t.record r = if r ∈ l then (s.record r).expired (s.window w).grace else s.record r
  waitList : (t.claim w).waitList = (s.claim w).waitList.filter fun r => decide (r ∉ l)
  upgrader : (t.claim w).upgrader =
    if ∃ r ∈ l, (s.claim w).upgrader = some (s.record r).slot ∧ (s.record r).holdEnds then none
    else (s.claim w).upgrader
  marker : (t.claim w).marker =
    if (s.claim w).marker ≠ .idle ∧ ∃ r ∈ l, (s.record r).phase = .waiting ∧ (s.record r).beneficiary = true then
      .inProgress none
    else (s.claim w).marker
  posted : Posted s t (expiryPosts w s l)

/-- A HELD record that runs out becomes LAPSING with the grace, and is warned (R85). -/
theorem expire_held {s : State} {r : RecordId} (h : (s.record r).phase = .held) :
    s.expire r =
      (s.setPhase r .lapsing ((s.window (s.record r).window).grace.setWidth 16)).post (s.record r).slot
        (.window (s.record r).window) ((s.record r).expiryBody (s.window (s.record r).window).grace) := by
  simp only [State.expire, h, ClaimRecord.expiryBody]

/-- Any other record in use that runs out is retired, and its slot is told (R84, R86, R87). -/
theorem expire_retired {s : State} {r : RecordId} (hf : (s.record r).phase ≠ .free) (h : (s.record r).phase ≠ .held) :
    s.expire r =
      (s.retire r).post (s.record r).slot (.window (s.record r).window)
        ((s.record r).expiryBody (s.window (s.record r).window).grace) := by
  cases hp : (s.record r).phase <;> simp_all [State.expire, ClaimRecord.expiryBody]

theorem expire_posted {s : State} {r : RecordId} {w : WindowId} (hf : (s.record r).phase ≠ .free)
    (hw : (s.record r).window = w) : Posted s (s.expire r) (expiryPosts w s [r]) := by
  subst hw
  by_cases h : (s.record r).phase = .held
  · rw [expire_held h]
    exact posted_post (s.setPhase r _ _) _ _ _
  · rw [expire_retired hf h]
    exact posted_post (s.retire r) _ _ _

theorem record_expire {s : State} {r : RecordId} (hf : (s.record r).phase ≠ .free) (q : RecordId) :
    (s.expire r).record q =
      if q = r then (s.record r).expired (s.window (s.record r).window).grace else s.record q := by
  by_cases h : (s.record r).phase = .held
  · simp [expire_held h, State.setPhase, ClaimRecord.expired, h]
  · simp [expire_retired hf h, ClaimRecord.expired, h]

/-- A HELD record that runs out leaves the claim state alone; any other leaves its wait list or holder set. -/
theorem claim_expire {s : State} {r : RecordId} (hf : (s.record r).phase ≠ .free) (v : WindowId) :
    (s.expire r).claim v =
      if v = (s.record r).window ∧ (s.record r).phase ≠ .held then (s.record r).leave r (s.claim v) else s.claim v := by
  by_cases h : (s.record r).phase = .held
  · simp [expire_held h, State.setPhase, h]
  · simp [expire_retired hf h, h]

/-- One record that runs out; the wait list names WAITING records alone, each once. -/
theorem expire_expired {s : State} {w : WindowId} {r : RecordId} (hf : (s.record r).phase ≠ .free)
    (hw : (s.record r).window = w) (hnodup : (s.claim w).waitList.Nodup)
    (hmem : r ∈ (s.claim w).waitList → (s.record r).phase = .waiting) : Expired w [r] s (s.expire r) := by
  have hclaim := claim_expire hf
  refine ⟨expire_beside s r, expire_windows s r, fun v hv => ?_, fun q => ?_, ?_, ?_, ?_, expire_posted hf hw⟩
  · simp [hclaim, hw, hv]
  · rw [record_expire hf, hw]
    by_cases hq : q = r <;> simp [hq]
  all_goals rw [hclaim]
  · by_cases hp : (s.record r).phase = .waiting
    · simp [hp, hw, leave_waiting hp, hnodup.erase_eq_filter, bne, BEq.beq]
    · have hout : ∀ q ∈ (s.claim w).waitList, q ≠ r := fun q hq h => hp (hmem (h ▸ hq))
      have hkept : (s.claim w).waitList.filter (fun q => decide (q ∉ [r])) = (s.claim w).waitList :=
        List.filter_eq_self.mpr fun q hq => by simp [hout q hq]
      rw [hkept, leave_hold (ClaimPhase.isHold_of_used hf hp)]
      split <;> rfl
  · by_cases hp : (s.record r).phase = .waiting
    · simp [hp, hw, leave_waiting hp]
    · have hh := ClaimPhase.isHold_of_used hf hp
      by_cases hheld : (s.record r).phase = .held <;> simp [hw, hheld, leave_hold hh, ClaimRecord.holdEnds, hh]
  · by_cases hp : (s.record r).phase = .waiting
    · by_cases hflag : (s.record r).beneficiary = true <;> by_cases hk : (s.claim w).marker = .idle <;>
        simp [hp, hw, hflag, hk, leave_waiting hp, dropBeneficiary_eq]
    · rw [leave_hold (ClaimPhase.isHold_of_used hf hp)]
      simp only [List.mem_singleton, exists_eq_left, hp, false_and, and_false, if_false]
      split <;> rfl

/-- The same with more records to follow. -/
theorem Expired.cons {w : WindowId} {r : RecordId} {l : List RecordId} {s u t : State} (hr : Expired w [r] s u)
    (hl : Expired w l u t) (hne : r ∉ l) : Expired w (r :: l) s t := by
  have hwindow : u.window w = s.window w := by simp only [State.window, hr.windows]
  have kept : ∀ q ∈ l, u.record q = s.record q := fun q hq => by
    have : q ≠ r := fun h => hne (h ▸ hq)
    simp [hr.record, this]
  refine ⟨hr.beside.trans hl.beside, hl.windows.trans hr.windows,
    fun v hv => (hl.otherClaims v hv).trans (hr.otherClaims v hv), fun q => ?_, ?_, ?_, ?_, ?_⟩
  · rw [hl.record, hwindow]
    by_cases hq : q ∈ l
    · simp [hq, kept q hq]
    · by_cases hqr : q = r <;> simp [hq, hqr, hr.record, hne]
  · rw [hl.waitList, hr.waitList, List.filter_filter]
    exact List.filter_congr fun q _ => by simp [Bool.and_comm]
  · have hex : ∀ x, (∃ q ∈ l, x = some (u.record q).slot ∧ (u.record q).holdEnds) ↔
        ∃ q ∈ l, x = some (s.record q).slot ∧ (s.record q).holdEnds := fun x =>
      exists_congr fun q => and_congr_right fun hq => by rw [kept q hq]
    rw [hl.upgrader, hr.upgrader]
    simp only [hex]
    by_cases hu : (s.claim w).upgrader = some (s.record r).slot
    · by_cases he : (s.record r).holdEnds
      · simp [hu, if_pos he, he.1, he.2]
      · simp [hu, he]
    · simp [hu]
  · have hex : (∃ q ∈ l, (u.record q).phase = .waiting ∧ (u.record q).beneficiary = true) ↔
        ∃ q ∈ l, (s.record q).phase = .waiting ∧ (s.record q).beneficiary = true :=
      exists_congr fun q => and_congr_right fun hq => by rw [kept q hq]
    rw [hl.marker, hr.marker]
    simp only [hex]
    by_cases hk : (s.claim w).marker = .idle
    · simp [hk]
    · by_cases h1 : (s.record r).phase = .waiting ∧ (s.record r).beneficiary = true <;> simp [h1, hk]
  · have hposts : expiryPosts w u l = expiryPosts w s l :=
      List.map_congr_left fun q hq => by rw [kept q hq, hwindow]
    have hposted := hl.posted
    rw [hposts] at hposted
    exact hr.posted.append hposted hr.beside.slot

/-- The records of one window that run out, in order. -/
theorem foldl_expire {w : WindowId} : ∀ (l : List RecordId) (s : State), l.Nodup →
    (∀ r ∈ l, (s.record r).phase ≠ .free ∧ (s.record r).window = w) → (s.claim w).waitList.Nodup →
    (∀ r ∈ l, r ∈ (s.claim w).waitList → (s.record r).phase = .waiting) → Expired w l s (l.foldl State.expire s)
  | [], s, _, _, _, _ =>
    ⟨.refl s, rfl, fun _ _ => rfl, fun _ => by simp, by simp, by simp, by simp, .of_queues fun _ => rfl⟩
  | r :: l, s, hnodup, hused, hlist, hwait => by
    obtain ⟨hr, hl⟩ := List.nodup_cons.mp hnodup
    obtain ⟨⟨hf, hw⟩, hused⟩ := List.forall_mem_cons.mp hused
    have hone := expire_expired hf hw hlist (hwait r List.mem_cons_self)
    have kept : ∀ q ∈ l, (s.expire r).record q = s.record q := fun q hq => by
      have : q ≠ r := fun h => hr (h ▸ hq)
      simp [hone.record, this]
    refine hone.cons (foldl_expire l (s.expire r) hl (fun q hq => ?_) ?_ fun q hq hq' => ?_) hr
    · rw [kept q hq]
      exact hused q hq
    · rw [hone.waitList]
      exact hlist.filter _
    · rw [hone.waitList] at hq'
      rw [kept q hq]
      exact hwait q (List.mem_cons_of_mem r hq) (List.mem_of_mem_filter hq')

/-! ### The visit to one window (R83) -/

section
variable {s : State} {w : WindowId} {r : RecordId}

@[simp] theorem record_countWindow :
    (s.countWindow w).record r =
      if (s.record r).counts = true ∧ (s.record r).window = w then (s.record r).countDown else s.record r := by
  simp only [State.countWindow, State.record, Fin.getElem_fin, Vector.getElem_map]
  rfl

@[simp] theorem claim_countWindow : (s.countWindow w).claim = s.claim := rfl

@[simp] theorem window_countWindow : (s.countWindow w).window = s.window := rfl

theorem counts_iff {c : ClaimRecord} :
    c.counts = true ↔ c.phase ≠ .free ∧ (c.counter ≠ 0 ∨ c.phase = .lapsing ∨ c.phase = .recalled) := by
  unfold ClaimRecord.counts
  cases c.phase <;> simp

/-- The records that run out on a tick are those in use whose counter stands at 1 (R83 step 2). -/
theorem mem_runningOut :
    r ∈ s.runningOut w ↔ (s.record r).phase ≠ .free ∧ (s.record r).window = w ∧ (s.record r).counter = 1 := by
  simp only [State.runningOut, List.mem_filter, mem_allRecords, true_and, ClaimRecord.runsOut, Bool.and_eq_true,
    counts_iff, decide_eq_true_eq]
  constructor
  · rintro ⟨⟨⟨hf, -⟩, h1⟩, hw⟩
    exact ⟨hf, hw, h1⟩
  · rintro ⟨hf, hw, h1⟩
    exact ⟨⟨⟨hf, .inl (by simp [h1])⟩, h1⟩, hw⟩

/-- The countdown of a record in use: its counter falls by one, and 0 stays 0 (R24, R83 step 1). -/
theorem countDown_counter (c : ClaimRecord) :
    c.countDown = { c with counter := BitVec.ofNat 16 (c.counter.toNat - 1) } := by
  unfold ClaimRecord.countDown
  congr 1
  split
  · next h => simp [h]
  · next h =>
    have hpos : c.counter.toNat ≠ 0 := fun h0 => h (BitVec.eq_of_toNat_eq h0)
    apply BitVec.eq_of_toNat_eq
    have := c.counter.isLt
    simp
    omega

theorem record_countWindow_of_used (hf : (s.record r).phase ≠ .free) (hw : (s.record r).window = w) :
    (s.countWindow w).record r =
      { s.record r with counter := BitVec.ofNat 16 ((s.record r).counter.toNat - 1) } := by
  rw [record_countWindow]
  split
  · exact countDown_counter _
  · next h =>
    have h0 : (s.record r).counter = 0 := by
      by_contra hne
      exact h ⟨counts_iff.mpr ⟨hf, .inl hne⟩, hw⟩
    have hcounter : BitVec.ofNat 16 ((s.record r).counter.toNat - 1) = (s.record r).counter := by simp [h0]
    rw [hcounter]

/-- Counting changes the counters alone. -/
theorem record_countWindow_counter (s : State) (w : WindowId) (r : RecordId) :
    ∃ k, (s.countWindow w).record r = { s.record r with counter := k } := by
  rw [record_countWindow]
  split
  · exact ⟨_, rfl⟩
  · exact ⟨(s.record r).counter, rfl⟩

end

/-- Window `w` after its countdown and the transitions of the records that run out, before any follow-ups (R83 steps 1
and 2). -/
def State.countedOut (s : State) (w : WindowId) : State := (s.runningOut w).foldl State.expire (s.countWindow w)

/-- The follow-ups are made once, if a record was retired (R88). -/
theorem tickWindow_eq (s : State) (w : WindowId) :
    s.tickWindow w =
      if ∃ r ∈ s.runningOut w, (s.record r).phase ≠ .held then
        (s.countedOut w).followUps w (decide (∃ r ∈ s.runningOut w, (s.record r).holdEnds)) none
      else s.countedOut w := by
  have hends : ((s.runningOut w).any fun r =>
      decide ((s.record r).phase = .lapsing) || decide ((s.record r).phase = .recalled)) =
        decide (∃ r ∈ s.runningOut w, (s.record r).holdEnds) := by
    rw [Bool.eq_iff_iff, List.any_eq_true, decide_eq_true_eq]
    refine exists_congr fun r => and_congr_right fun _ => ?_
    cases hp : (s.record r).phase <;> simp [ClaimRecord.holdEnds, hp]
  have hany : ((s.runningOut w).any fun r => decide ((s.record r).phase ≠ .held)) = true ↔
      ∃ r ∈ s.runningOut w, (s.record r).phase ≠ .held := by simp
  unfold State.tickWindow
  simp only [hends, hany]
  rfl

/-- The visit to a window before its follow-ups, as the expiry of the records whose counters reach 0 on it. -/
theorem countedOut_expired {s : State} (h : WaitListsLawful s) (w : WindowId) :
    Expired w (s.runningOut w) (s.countWindow w) (s.countedOut w) := by
  obtain ⟨hnodup, hmem⟩ := h w
  refine foldl_expire _ _ ((List.nodup_finRange 128).filter _) (fun r hr => ?_) hnodup fun r _ hr => ?_
  · obtain ⟨hf, hw, -⟩ := mem_runningOut.mp hr
    simp [record_countWindow_of_used hf hw, hf, hw]
  · obtain ⟨hp, hw⟩ := (hmem r).mp hr
    simp [record_countWindow_of_used (by simp [hp]) hw, hp]

/-- What a visit leaves of each record, before the follow-ups (R83 to R87). -/
theorem record_countedOut {s : State} (h : WaitListsLawful s) (w : WindowId) (r : RecordId) :
    (s.countedOut w).record r =
      if (s.record r).window ≠ w ∨ (s.record r).phase = .free then s.record r
      else if (s.record r).counter = 1 then
        if (s.record r).phase = .held then
          { s.record r with phase := .lapsing, counter := (s.window w).grace.setWidth 16 }
        else ClaimRecord.cleared
      else { s.record r with counter := BitVec.ofNat 16 ((s.record r).counter.toNat - 1) } := by
  simp only [(countedOut_expired h w).record, mem_runningOut]
  by_cases hw : (s.record r).window = w
  · by_cases hf : (s.record r).phase = .free
    · simp [hf, counts_iff]
    · simp only [record_countWindow_of_used hf hw, hf, hw, ClaimRecord.expired, window_countWindow]
      simp [hf]
  · simp [hw]

/-- The wait list, the upgrader, the marker and the notices of a visit, before the follow-ups, in terms of the state
before the countdown. -/
theorem countedOut_claim {s : State} (h : WaitListsLawful s) (w : WindowId) :
    ((s.countedOut w).claim w).waitList = (s.claim w).waitList.filter (fun r => decide (r ∉ s.runningOut w)) ∧
    ((s.countedOut w).claim w).upgrader =
      (if ∃ r ∈ s.runningOut w, (s.claim w).upgrader = some (s.record r).slot ∧ (s.record r).holdEnds then none
        else (s.claim w).upgrader) ∧
    ((s.countedOut w).claim w).marker =
      (if (s.claim w).marker ≠ .idle ∧
          ∃ r ∈ s.runningOut w, (s.record r).phase = .waiting ∧ (s.record r).beneficiary = true then .inProgress none
        else (s.claim w).marker) ∧
    Posted s (s.countedOut w) (expiryPosts w s (s.runningOut w)) := by
  have hx := countedOut_expired h w
  have kept : ∀ r, ∃ k, (s.countWindow w).record r = { s.record r with counter := k } := record_countWindow_counter s w
  refine ⟨hx.waitList, ?_, ?_, ?_⟩
  · rw [hx.upgrader]
    congr 1
    refine propext (exists_congr fun r => and_congr_right fun _ => ?_)
    obtain ⟨k, hk⟩ := kept r
    rw [hk]
    rfl
  · rw [hx.marker]
    congr 1
    refine propext (and_congr_right fun _ => exists_congr fun r => and_congr_right fun _ => ?_)
    obtain ⟨k, hk⟩ := kept r
    rw [hk]
  · have hposts : expiryPosts w (s.countWindow w) (s.runningOut w) = expiryPosts w s (s.runningOut w) :=
      List.map_congr_left fun r _ => by
        obtain ⟨k, hk⟩ := kept r
        rw [hk]
        rfl
    exact fun n => hposts ▸ hx.posted n

/-- Settles O49: each visit is the expiry of the records whose counters reach 0, and then the follow-ups. -/
theorem tickAtTheClaimTable : Obligations.TickAtTheClaimTable := by
  unfold Obligations.TickAtTheClaimTable
  refine ⟨fun s hpor => ⟨fun hd => ?_, fun k hk => ?_⟩, fun s w h => ?_⟩
  · exact congrArg Host.Outcome.next (if_pos (.inr hd))
  · refine congrArg Host.Outcome.next ((if_neg ?_).trans ?_)
    · simp [hpor, hk]
    · rw [hk]
      rfl
  · obtain ⟨hlist, hupgrader, hmarker, hposted⟩ := countedOut_claim h.waitLists w
    have hx := countedOut_expired h.waitLists w
    exact ⟨s.countedOut w, tickWindow_eq s w, fun r => mem_runningOut, record_countedOut h.waitLists w, hx.windows,
      ⟨fun v _ => by simp only [State.window, hx.windows]; rfl, hx.otherClaims⟩, hlist, hupgrader, hmarker, hposted,
      (countWindow_beside s w).trans hx.beside⟩

end Sys2Proof.Machine
end

section
/-! SUPPORT. What a step can do to the Claim Table, said once: the changes of which every step is a sequence. Each law
of the records and claim states is then proved change by change. -/

namespace Sys2Proof.Machine

/-! ### Records that leave a window -/

/-- A claim record that stays in use while time passes: only its phase and counter may change, and only by running down
or, for a HELD record, by becoming LAPSING with the grace (R22, R24, R85). -/
def ClaimRecord.RunsOn (grace : BitVec 8) (c c' : ClaimRecord) : Prop :=
  ∃ phase counter, c' = { c with phase := phase, counter := counter } ∧
    (phase = c.phase ∧ (c.phase = .free → counter = c.counter) ∧
        ((c.phase = .lapsing ∨ c.phase = .recalled) → c.counter ≠ 0 → counter ≠ 0) ∨
      c.phase = .held ∧ phase = .lapsing ∧ counter = grace.setWidth 16)

/-- Some records in use on window `w` have been retired, and the others have stayed (R34, R83). -/
structure Thinned (w : WindowId) (s t : State) : Prop where
  slots : t.slots = s.slots
  windows : t.windows = s.windows
  otherClaims : ∀ v, v ≠ w → t.claim v = s.claim v
  record : ∀ r, t.record r = .cleared ∧ (s.record r).phase ≠ .free ∧ (s.record r).window = w ∨
    (s.record r).RunsOn (s.window (s.record r).window).grace (t.record r)
  waitList : (t.claim w).waitList = (s.claim w).waitList.filter fun r => decide ((t.record r).phase ≠ .free)
  upgrader : ∀ u, (t.claim w).upgrader = some u → (s.claim w).upgrader = some u ∧
    ∀ r, s.isHoldOn w r = true → (s.record r).slot = u → (t.record r).phase ≠ .free
  marker : (t.claim w).marker =
    if ∃ r, (s.record r).phase = .waiting ∧ (s.record r).window = w ∧ (s.record r).beneficiary = true ∧
      (t.record r).phase = .free then (s.claim w).marker.dropBeneficiary else (s.claim w).marker

/-! ### The changes -/

/-- One grant of a grant pass on window `w`: its head, which can join the holds there are, or its pending upgrade
(R48). -/
inductive PassStep (w : WindowId) (s : State) : State → Prop
  | grantHead {r : RecordId} {rest : List RecordId} (opened : (s.window w).state = .opened)
      (idle : (s.claim w).marker = .idle) (list : (s.claim w).waitList = r :: rest)
      (waiting : (s.record r).phase = .waiting) (window : (s.record r).window = w)
      (joins : ∀ q, s.isHoldOn w q = true → (s.record q).mode = .shared ∧ (s.record r).mode = .shared) :
      PassStep w s (s.grant r)
  | completeUpgrade {r : RecordId} (opened : (s.window w).state = .opened) (idle : (s.claim w).marker = .idle)
      (holders : s.holders w = [r]) (upgrader : (s.claim w).upgrader = some (s.record r).slot) :
      PassStep w s (s.completeUpgrade w r)

/-- A FREE record may be filled in for slot `c` on window `w` (R31, R40, R94). -/
structure Claimable (s : State) (c : SlotId) (w : WindowId) (r : RecordId) : Prop where
  free : (s.record r).phase = .free
  opened : (s.window w).state = .opened
  active : (s.slot c).state = .active
  apart : ∀ q, (s.record q).phase ≠ .free → ¬((s.record q).slot = c ∧ (s.record q).window = w)
  room : s.inUse c < (s.slot c).quota

/-- A waiting record moves to the head of its window's list with its flag set (R96). -/
def State.moveToHead (s : State) (w : WindowId) (r : RecordId) : State :=
  (s.setRecord r { s.record r with beneficiary := true }).setClaim w
    { s.claim w with waitList := r :: (s.claim w).waitList.erase r }

/-- A new EXCLUSIVE record with its flag set joins the head of a window's list (R96). -/
def State.insertHead (s : State) (w : WindowId) (b : SlotId) (r : RecordId) : State :=
  (s.fillRecord r b w .waiting .exclusive 0 0 true).setClaim w
    { s.claim w with waitList := r :: (s.claim w).waitList }

/-- Slot `b`'s record has been placed at the head of window `w`'s wait list (R96). -/
inductive Placed (w : WindowId) (b : SlotId) (s : State) : State → Prop
  | moved {r : RecordId} (waiting : s.waitingOf b w = some r) : Placed w b s (s.moveToHead w r)
  | inserted {r : RecordId} (claimable : Claimable s b w r) : Placed w b s (s.insertHead w b r)

/-- RECALL of a held window, before a beneficiary is placed: its holds recalled, its upgrader cleared, its marker set
(R95). -/
def State.markRecall (s : State) (w : WindowId) (b : Option SlotId) : State :=
  (s.recallHolds w (s.claim w).upgrader).setClaim w
    { (s.recallHolds w (s.claim w).upgrader).claim w with upgrader := none, marker := .inProgress b }

/-- CLOSE of a held window, once its waiting claims are withdrawn (R102 steps 3 to 5). -/
def State.drain (s : State) (w : WindowId) (upgrader : Option SlotId) : State :=
  ((s.recallHolds w upgrader).setClaim w
    { (s.recallHolds w upgrader).claim w with marker := .idle }).setWindowState w .draining

/-- What may happen to the slots while the tables stay: an ACTIVE slot stays ACTIVE unless it has no record in use, and
a quota that covers the records in use goes on to do so. -/
structure StandingKept (s t : State) : Prop where
  active : ∀ n, (s.slot n).state = .active →
    (t.slot n).state = .active ∨ ∀ r, (s.record r).phase ≠ .free → (s.record r).slot ≠ n
  quota : ∀ n, s.inUse n ≤ (s.slot n).quota → s.inUse n ≤ (t.slot n).quota

/-- The changes of windows, claim records, claim states and slots of which every step is a sequence. -/
inductive Change (s : State) : State → Prop
  /-- The tables stay as they are. -/
  | quiet {t : State} (tables : SameTables s t) (standing : StandingKept s t) : Change s t
  /-- A grant pass makes one grant (R48). -/
  | pass {w : WindowId} {t : State} (h : PassStep w s t) : Change s t
  /-- Records are retired, no hold among them (R34). -/
  | thin {w : WindowId} {t : State} (h : Thinned w s t)
      (held : ∀ r, s.isHoldOn w r = true → t.isHoldOn w r = true) : Change s t
  /-- Records are retired, and the follow-ups of a hold's retirement are made (R34, R35). -/
  | endHolds {w : WindowId} {t : State} (h : Thinned w s t) (x : Option SlotId) : Change s (t.followUps w true x)
  /-- CLAIM takes a record as a hold (R43). -/
  | takeHold {c : SlotId} {w : WindowId} {m : Mode} {r : RecordId} (tag : BitVec 8) (claimable : Claimable s c w r)
      (atOnce : s.grantableAtOnce w m = true) : Change s (s.fillRecord r c w .held m tag (s.window w).lease false)
  /-- CLAIM takes a record as a waiting claim (R45). -/
  | enqueue {c : SlotId} {w : WindowId} {r : RecordId} (m : Mode) (tag : BitVec 8) (wait : Ticks)
      (claimable : Claimable s c w r) : Change s (s.enqueueClaim c w m tag wait r)
  /-- A hold that is not RECALLED is HELD with its lease again, in its mode, SHARED, or, where it is alone, EXCLUSIVE
  (R66, R69, R71, R121). -/
  | restart {r : RecordId} {m : Mode} (hold : (s.record r).phase.isHold = true) (kept : (s.record r).phase ≠ .recalled)
      (mode : m = (s.record r).mode ∨ m = .shared ∨ s.holders (s.record r).window = [r])
      (pending : m = (s.record r).mode ∨ m = .shared ∨
        ¬((s.window (s.record r).window).state = .opened ∧ (s.claim (s.record r).window).marker = .idle ∧
          (s.claim (s.record r).window).upgrader = some (s.record r).slot)) : Change s (s.restartHold r m)
  /-- A pending upgrade is cleared, or noted for a SHARED hold that is not RECALLED (R56, R69). -/
  | setUpgrader {w : WindowId} (u : Option SlotId)
      (holds : ∀ c, u = some c → ∃ r, s.holdOf c w = some r ∧ (s.record r).mode = .shared ∧
        (s.record r).phase ≠ .recalled) : Change s (s.setClaim w { s.claim w with upgrader := u })
  /-- TRANSFER: an EXCLUSIVE hold ends and a waiting EXCLUSIVE claim is granted (R74). -/
  | transfer {w : WindowId} {r q : RecordId} (idle : (s.claim w).marker = .idle) (hold : s.isHoldOn w r = true)
      (exclusive : (s.record r).mode = .exclusive) (waiting : (s.record q).phase = .waiting)
      (window : (s.record q).window = w) : Change s ((s.retire r).grant q)
  /-- The definition or state of a window changes on which no record is in use, since it is UNDEFINED or CLOSED or since
  there is none (R10, R11, R29, R103). -/
  | redefine {w : WindowId} {d : WindowRecord}
      (unused : (s.window w).state ≠ .opened ∧ (s.window w).state ≠ .draining ∨
        ∀ r, (s.record r).phase ≠ .free → (s.record r).window ≠ w)
      (lawful : d.lawful ∨ (s.window w).KeptAs d) : Change s (s.setWindow w d)
  /-- CLOSE drains a held window (R102). -/
  | drain {w : WindowId} (u : Option SlotId) (opened : (s.window w).state = .opened)
      (list : (s.claim w).waitList = []) (upgrader : (s.claim w).upgrader = none) : Change s (s.drain w u)
  /-- RECALL of a held window without a beneficiary (R95). -/
  | recallHeld {w : WindowId} (opened : (s.window w).state = .opened) (idle : (s.claim w).marker = .idle)
      (held : s.holders w ≠ []) : Change s (s.markRecall w none)
  /-- RECALL of a held window for a beneficiary (R95, R96). -/
  | recallFor {w : WindowId} {b : SlotId} {t : State} (opened : (s.window w).state = .opened)
      (idle : (s.claim w).marker = .idle) (held : s.holders w ≠ []) (h : Placed w b (s.markRecall w (some b)) t) :
      Change s t
  /-- RECALL of an unheld window for a beneficiary (R97). -/
  | recallUnheld {w : WindowId} {b : SlotId} {t : State} (opened : (s.window w).state = .opened)
      (idle : (s.claim w).marker = .idle) (unheld : s.holders w = []) (h : Placed w b s t) : Change s (t.grantPass w)
  /-- A reset clears the Claim Table (R38, R144, R145). -/
  | reset {t : State} (records : ∀ r, t.record r = .cleared) (claims : ∀ w, t.claim w = .cleared)
      (windows : ∀ w, (s.window w).KeptAs (t.window w)) : Change s t

/-- A sequence of changes. -/
abbrev Changes : State → State → Prop := Relation.ReflTransGen Change

/-- What every change keeps, a sequence of changes keeps. -/
theorem Changes.keep {P : State → Prop} (h : ∀ {s t}, P s → Change s t → P t) {s t : State} (k : Changes s t)
    (hs : P s) : P t := by
  induction k with
  | refl => exact hs
  | tail _ hc ih => exact h ih hc

/-! ### Reads of a thinned window -/

section
variable {grace : BitVec 8} {c c' : ClaimRecord}

theorem ClaimRecord.RunsOn.refl (grace : BitVec 8) (c : ClaimRecord) : c.RunsOn grace c :=
  ⟨c.phase, c.counter, rfl, .inl ⟨rfl, fun _ => rfl, fun _ h => h⟩⟩

theorem ClaimRecord.RunsOn.isHold_eq (h : c.RunsOn grace c') : c'.phase.isHold = c.phase.isHold := by
  obtain ⟨p, k, rfl, ⟨rfl, -⟩ | ⟨hp, rfl, -⟩⟩ := h
  · rfl
  · simp [hp]

theorem ClaimRecord.RunsOn.waiting_iff (h : c.RunsOn grace c') : c'.phase = .waiting ↔ c.phase = .waiting := by
  obtain ⟨p, k, rfl, ⟨rfl, -⟩ | ⟨hp, rfl, -⟩⟩ := h
  · rfl
  · simp [hp]

theorem ClaimRecord.RunsOn.free_iff (h : c.RunsOn grace c') : c'.phase = .free ↔ c.phase = .free := by
  obtain ⟨p, k, rfl, ⟨rfl, -⟩ | ⟨hp, rfl, -⟩⟩ := h
  · rfl
  · simp [hp]

theorem ClaimRecord.RunsOn.eq_of_free (h : c.RunsOn grace c') (hf : c.phase = .free) : c' = c := by
  obtain ⟨p, k, rfl, ⟨rfl, hk, -⟩ | ⟨hp, -⟩⟩ := h
  · rw [hk hf]
  · cases hf.symm.trans hp

theorem ClaimRecord.RunsOn.recalled_iff (h : c.RunsOn grace c') : c'.phase = .recalled ↔ c.phase = .recalled := by
  obtain ⟨p, k, rfl, ⟨rfl, -⟩ | ⟨hp, rfl, -⟩⟩ := h
  · rfl
  · simp [hp]

theorem ClaimRecord.RunsOn.slot_eq (h : c.RunsOn grace c') : c'.slot = c.slot := by
  obtain ⟨p, k, rfl, -⟩ := h
  rfl

theorem ClaimRecord.RunsOn.window_eq (h : c.RunsOn grace c') : c'.window = c.window := by
  obtain ⟨p, k, rfl, -⟩ := h
  rfl

theorem ClaimRecord.RunsOn.mode_eq (h : c.RunsOn grace c') : c'.mode = c.mode := by
  obtain ⟨p, k, rfl, -⟩ := h
  rfl

theorem ClaimRecord.RunsOn.beneficiary_eq (h : c.RunsOn grace c') : c'.beneficiary = c.beneficiary := by
  obtain ⟨p, k, rfl, -⟩ := h
  rfl

end

section
variable {w : WindowId} {s t : State}

/-- A record in use after the thinning is the one before it, run on. -/
theorem Thinned.used (h : Thinned w s t) {r : RecordId} (hr : (t.record r).phase ≠ .free) :
    (s.record r).RunsOn (s.window (s.record r).window).grace (t.record r) :=
  (h.record r).resolve_left fun hc => hr (by rw [hc.1]; rfl)

/-- A record on another window runs on. -/
theorem Thinned.elsewhere (h : Thinned w s t) {r : RecordId} (hr : (s.record r).window ≠ w) :
    (s.record r).RunsOn (s.window (s.record r).window).grace (t.record r) :=
  (h.record r).resolve_left fun hc => hr hc.2.2

theorem Thinned.window (h : Thinned w s t) (v : WindowId) : t.window v = s.window v := by
  simp only [State.window, h.windows]

theorem Thinned.slot (h : Thinned w s t) (n : SlotId) : t.slot n = s.slot n := by
  simp only [State.slot, h.slots]

/-- Posts after the retirements do not matter. -/
theorem Thinned.congr (h : Thinned w s t) {u : State} (k : SameTables t u) (hs : u.slots = t.slots) :
    Thinned w s u := by
  have hr : ∀ r, u.record r = t.record r := fun r => by simp only [State.record, k.records]
  have hc : ∀ v, u.claim v = t.claim v := fun v => by simp only [State.claim, k.claims]
  refine ⟨hs.trans h.slots, k.windows.trans h.windows, fun v hv => (hc v).trans (h.otherClaims v hv), fun r => ?_, ?_,
    ?_, ?_⟩
  · simpa only [hr] using h.record r
  · simpa only [hr, hc] using h.waitList
  · simpa only [hr, hc] using h.upgrader
  · simpa only [hr, hc] using h.marker

/-- A record in use that is retired thins its window (R34). -/
theorem retire_thinned (h : WaitListsLawful s) {r : RecordId} (hf : (s.record r).phase ≠ .free)
    (hw : (s.record r).window = w) : Thinned w s (s.retire r) := by
  obtain ⟨hnodup, hmem⟩ := h w
  have hfree : ∀ q, (s.record q).phase ≠ .free → (((s.retire r).record q).phase = .free ↔ q = r) := fun q hq => by
    by_cases hqr : q = r <;> simp [hqr, hq]
  have hlist : (s.claim w).waitList.filter (fun q => decide (((s.retire r).record q).phase ≠ .free)) =
      (s.claim w).waitList.erase r := by
    rw [hnodup.erase_eq_filter]
    refine List.filter_congr fun q hq => ?_
    have hp : (s.record q).phase ≠ .free := by simp [((hmem q).mp hq).1]
    by_cases hqr : q = r <;> simp [hqr, hp, bne]
  refine ⟨rfl, rfl, fun v hv => by simp [hw, hv], fun q => ?_, ?_, fun u hu => ?_, ?_⟩
  · by_cases hq : q = r
    · subst hq
      exact .inl ⟨by simp, hf, hw⟩
    · exact .inr (by simpa [hq] using .refl _ _)
  all_goals have hclaim : (s.retire r).claim w = (s.record r).leave r (s.claim w) := by simp [hw]
  · rw [hlist, hclaim]
    by_cases hp : (s.record r).phase = .waiting
    · simp [leave_waiting hp]
    · rw [List.erase_of_not_mem fun hr => hp ((hmem r).mp hr).1, leave_hold (ClaimPhase.isHold_of_used hf hp)]
  · rw [hclaim] at hu
    by_cases hp : (s.record r).phase = .waiting
    · rw [leave_waiting hp] at hu
      refine ⟨hu, fun q hq _ hfq => ?_⟩
      obtain ⟨hh, -⟩ := isHoldOn_iff.mp hq
      obtain rfl := (hfree q (ClaimPhase.ne_free_of_isHold hh)).mp hfq
      exact ClaimPhase.ne_waiting_of_isHold hh hp
    · rw [leave_hold (ClaimPhase.isHold_of_used hf hp)] at hu
      by_cases hslot : (s.claim w).upgrader = some (s.record r).slot
      · simp [hslot] at hu
      · simp only [hslot, if_false] at hu
        refine ⟨hu, fun q hq hqu hfq => hslot ?_⟩
        obtain rfl := (hfree q (ClaimPhase.ne_free_of_isHold (isHoldOn_iff.mp hq).1)).mp hfq
        rw [hu, hqu]
  · have hex : (∃ q, (s.record q).phase = .waiting ∧ (s.record q).window = w ∧ (s.record q).beneficiary = true ∧
        ((s.retire r).record q).phase = .free) ↔
        (s.record r).phase = .waiting ∧ (s.record r).beneficiary = true := by
      constructor
      · rintro ⟨q, hp, -, hb, hq⟩
        obtain rfl := (hfree q (by simp [hp])).mp hq
        exact ⟨hp, hb⟩
      · rintro ⟨hp, hb⟩
        exact ⟨r, hp, hw, hb, by simp⟩
    simp only [hclaim, hex]
    by_cases hp : (s.record r).phase = .waiting
    · simp [leave_waiting hp, hp]
    · rw [leave_hold (ClaimPhase.isHold_of_used hf hp)]
      simp [hp]

/-- A hold that TRANSFER retires thins its window, and leaves the waiting claim it goes to as it is (R74). -/
theorem transfer_thinned (h : WaitListsLawful s) {r q : RecordId} (hold : s.isHoldOn w r = true)
    (waiting : (s.record q).phase = .waiting) :
    Thinned w s (s.retire r) ∧ (s.retire r).record q = s.record q := by
  obtain ⟨hh, hw⟩ := isHoldOn_iff.mp hold
  have hqr : q ≠ r := fun he => ClaimPhase.ne_waiting_of_isHold hh (he ▸ waiting)
  exact ⟨retire_thinned h (ClaimPhase.ne_free_of_isHold hh) hw, by simp [hqr]⟩

/-- The countdown of a window and the expiries on it thin it (R83). -/
theorem countedOut_thinned (h : WaitListsLawful s) (w : WindowId) : Thinned w s (s.countedOut w) := by
  have hx := countedOut_expired h w
  have hrecord := record_countedOut h w
  obtain ⟨hlist, hupgrader, hmarker, -⟩ := countedOut_claim h w
  have hfree : ∀ r, (s.record r).phase ≠ .free →
      (((s.countedOut w).record r).phase = .free ↔ r ∈ s.runningOut w ∧ (s.record r).phase ≠ .held) := fun r hf => by
    rw [hrecord, mem_runningOut]
    by_cases hw : (s.record r).window = w <;> by_cases h1 : (s.record r).counter = 1#16 <;>
      by_cases hp : (s.record r).phase = .held <;> simp [hf, hw, h1, hp]
  refine ⟨hx.beside.slots, hx.windows, hx.otherClaims, fun r => ?_, ?_, fun u hu => ?_, ?_⟩
  · rw [hrecord]
    split
    · exact .inr (.refl _ _)
    · next hin =>
      obtain ⟨hw, hf⟩ : (s.record r).window = w ∧ (s.record r).phase ≠ .free := by simpa using hin
      split
      · split
        · next hp => exact .inr ⟨_, _, rfl, .inr ⟨hp, rfl, by rw [hw]⟩⟩
        · exact .inl ⟨rfl, hf, hw⟩
      · next h1 =>
        refine .inr ⟨_, _, rfl, .inl ⟨rfl, fun h => absurd h hf, fun _ h0 hz => ?_⟩⟩
        have h0' : (s.record r).counter.toNat ≠ 0 := fun h => h0 (BitVec.eq_of_toNat_eq h)
        have h1' : (s.record r).counter.toNat ≠ 1 := fun h => h1 (BitVec.eq_of_toNat_eq h)
        have hz' : (BitVec.ofNat 16 ((s.record r).counter.toNat - 1)).toNat = 0 := by rw [hz]; rfl
        have := (s.record r).counter.isLt
        rw [BitVec.toNat_ofNat] at hz'
        omega
  · rw [hlist]
    refine List.filter_congr fun r hr => ?_
    have hp := (((h w).2 r).mp hr).1
    have := hfree r (by simp [hp])
    simp [this, hp]
  · rw [hupgrader] at hu
    split at hu
    · cases hu
    · next hno =>
      refine ⟨hu, fun r hr hslot hfr => hno ⟨r, ?_⟩⟩
      obtain ⟨hh, -⟩ := isHoldOn_iff.mp hr
      obtain ⟨hdue, hheld⟩ := (hfree r (ClaimPhase.ne_free_of_isHold hh)).mp hfr
      exact ⟨hdue, hu.trans (by rw [hslot]), hh, hheld⟩
  · have hex : (∃ r ∈ s.runningOut w, (s.record r).phase = .waiting ∧ (s.record r).beneficiary = true) ↔
        ∃ r, (s.record r).phase = .waiting ∧ (s.record r).window = w ∧ (s.record r).beneficiary = true ∧
          ((s.countedOut w).record r).phase = .free := by
      refine exists_congr fun r => ⟨?_, ?_⟩
      · rintro ⟨hr, hp, hb⟩
        exact ⟨hp, (mem_runningOut.mp hr).2.1, hb, (hfree r (by simp [hp])).mpr ⟨hr, by simp [hp]⟩⟩
      · rintro ⟨hp, -, hb, hr⟩
        exact ⟨((hfree r (by simp [hp])).mp hr).1, hp, hb⟩
    rw [hmarker]
    simp only [hex]
    by_cases hk : (s.claim w).marker = .idle <;> simp [hk, dropBeneficiary_eq]

end

/-! ### Reads of a recalled window -/

section
variable (s : State) (w v : WindowId)

@[simp] theorem record_markRecall (b : Option SlotId) (r : RecordId) :
    (s.markRecall w b).record r =
      if s.isHoldOn w r = true then (s.record r).recall (s.window w).recallLimit else s.record r := by
  simp only [← mem_holders]
  exact (recallHolds_recalled s w _).record r

@[simp] theorem claim_markRecall (b : Option SlotId) :
    (s.markRecall w b).claim v =
      if v = w then { s.claim w with upgrader := none, marker := .inProgress b } else s.claim v := by
  simp [State.markRecall, (recallHolds_recalled s w (s.claim w).upgrader).claims]

@[simp] theorem window_markRecall (b : Option SlotId) : (s.markRecall w b).window v = s.window v := by
  simp only [State.markRecall, State.window_setClaim]
  simp only [State.window, recallHolds_windows]

@[simp] theorem slot_markRecall (b : Option SlotId) (n : SlotId) : (s.markRecall w b).slot n = s.slot n :=
  (recallHolds_beside s w _).slot n

@[simp] theorem record_drain (u : Option SlotId) (r : RecordId) :
    (s.drain w u).record r =
      if s.isHoldOn w r = true then (s.record r).recall (s.window w).recallLimit else s.record r := by
  simp only [← mem_holders]
  exact (recallHolds_recalled s w u).record r

@[simp] theorem claim_drain (u : Option SlotId) :
    (s.drain w u).claim v = if v = w then { s.claim w with marker := .idle } else s.claim v := by
  simp [State.drain, State.setWindowState, (recallHolds_recalled s w u).claims]

@[simp] theorem window_drain (u : Option SlotId) :
    (s.drain w u).window v = if v = w then { s.window w with state := .draining } else s.window v := by
  simp only [State.drain, State.setWindowState, State.window_setWindow, State.window_setClaim]
  simp only [State.window, recallHolds_windows]

@[simp] theorem slot_drain (u : Option SlotId) (n : SlotId) : (s.drain w u).slot n = s.slot n :=
  (recallHolds_beside s w u).slot n

end

section
variable (c : ClaimRecord) (limit : BitVec 8)

@[simp] theorem slot_recall : (c.recall limit).slot = c.slot := by
  unfold ClaimRecord.recall
  split <;> rfl

@[simp] theorem window_recall : (c.recall limit).window = c.window := by
  unfold ClaimRecord.recall
  split <;> rfl

@[simp] theorem mode_recall : (c.recall limit).mode = c.mode := by
  unfold ClaimRecord.recall
  split <;> rfl

@[simp] theorem beneficiary_recall : (c.recall limit).beneficiary = c.beneficiary := by
  unfold ClaimRecord.recall
  split <;> rfl

@[simp] theorem phase_recall : (c.recall limit).phase = .recalled := by
  unfold ClaimRecord.recall
  split
  · assumption
  · rfl

end

/-! ### Reads of a placed beneficiary's window -/

section
variable (s : State) (w v : WindowId) (r q : RecordId) (b n : SlotId)

@[simp] theorem record_moveToHead :
    (s.moveToHead w r).record q = if q = r then { s.record r with beneficiary := true } else s.record q := by
  simp [State.moveToHead]

@[simp] theorem claim_moveToHead :
    (s.moveToHead w r).claim v =
      if v = w then { s.claim w with waitList := r :: (s.claim w).waitList.erase r } else s.claim v := by
  simp [State.moveToHead]

@[simp] theorem window_moveToHead : (s.moveToHead w r).window v = s.window v := rfl

@[simp] theorem slot_moveToHead : (s.moveToHead w r).slot n = s.slot n := rfl

@[simp] theorem record_insertHead :
    (s.insertHead w b r).record q =
      if q = r then
        { phase := .waiting, slot := b, window := w, mode := .exclusive, tag := 0, counter := 0, beneficiary := true }
      else s.record q := by
  simp [State.insertHead]

@[simp] theorem claim_insertHead :
    (s.insertHead w b r).claim v =
      if v = w then { s.claim w with waitList := r :: (s.claim w).waitList } else s.claim v := by
  simp [State.insertHead]

@[simp] theorem window_insertHead : (s.insertHead w b r).window v = s.window v := rfl

@[simp] theorem slot_insertHead : (s.insertHead w b r).slot n = s.slot n := rfl

end

/-- What placing slot `b`'s record leaves: a flagged record at the head, everything else as it was (R96). -/
structure PlacedAt (w : WindowId) (b : SlotId) (r : RecordId) (s t : State) : Prop where
  phase : (t.record r).phase = .waiting
  slot : (t.record r).slot = b
  window : (t.record r).window = w
  beneficiary : (t.record r).beneficiary = true
  head : (t.claim w).waitList.head? = some r
  before : (s.record r).phase = .free ∨ (s.record r).phase = .waiting ∧ (s.record r).window = w
  others : ∀ q, q ≠ r → t.record q = s.record q
  otherClaims : ∀ v, v ≠ w → t.claim v = s.claim v
  marker : ∀ v, (t.claim v).marker = (s.claim v).marker
  upgrader : ∀ v, (t.claim v).upgrader = (s.claim v).upgrader
  windows : ∀ v, t.window v = s.window v

theorem Placed.at {w : WindowId} {b : SlotId} {s t : State} (k : Placed w b s t) : ∃ r, PlacedAt w b r s t := by
  cases k with
  | @moved r waiting =>
    obtain ⟨hphase, hslot, hwindow⟩ := waitingOf_some waiting
    refine ⟨r, by simpa using hphase, by simpa using hslot, by simpa using hwindow, by simp, by simp,
      .inr ⟨hphase, hwindow⟩, fun q hq => by simp [hq], fun v hv => by simp [hv], fun v => ?_, fun v => ?_,
      fun v => rfl⟩
    all_goals by_cases hv : v = w <;> simp [hv]
  | @inserted r claimable =>
    refine ⟨r, by simp, by simp, by simp, by simp, by simp, .inl claimable.free, fun q hq => by simp [hq],
      fun v hv => by simp [hv], fun v => ?_, fun v => ?_, fun v => rfl⟩
    all_goals by_cases hv : v = w <;> simp [hv]

/-- The placed record was no hold. -/
theorem PlacedAt.not_hold {w : WindowId} {b : SlotId} {r : RecordId} {s t : State} (k : PlacedAt w b r s t) :
    (s.record r).phase.isHold = false := by
  obtain hfree | ⟨hwait, -⟩ := k.before
  · simp [hfree]
  · simp [hwait]

/-! ### Reads after the last hold of a window (R35) -/

section
variable (s : State) (w v : WindowId) (x : Option SlotId)

/-- The last hold's follow-up as a change of the tables: the recall ends, and a DRAINING window closes. -/
theorem lastHoldRetired_tables (r : RecordId) :
    (s.lastHoldRetired w x).record r = s.record r ∧
    (s.lastHoldRetired w x).claim v = (if v = w then { s.claim w with marker := .idle } else s.claim v) ∧
    (s.lastHoldRetired w x).window v =
      if v = w ∧ (s.window w).state = .draining then { s.window w with state := .closed } else s.window v := by
  unfold State.lastHoldRetired
  dsimp only
  split
  · next hd =>
    refine ⟨?_, by simp, by simp [hd]⟩
    simp only [State.record, (postToMaster_tables ..).records]
    rfl
  · next hd => exact ⟨rfl, by simp, by simp [hd]⟩

@[simp] theorem record_lastHoldRetired (r : RecordId) : (s.lastHoldRetired w x).record r = s.record r :=
  (lastHoldRetired_tables s w w x r).1

@[simp] theorem claim_lastHoldRetired :
    (s.lastHoldRetired w x).claim v = if v = w then { s.claim w with marker := .idle } else s.claim v :=
  (lastHoldRetired_tables s w v x 0).2.1

@[simp] theorem window_lastHoldRetired :
    (s.lastHoldRetired w x).window v =
      if v = w ∧ (s.window w).state = .draining then { s.window w with state := .closed } else s.window v :=
  (lastHoldRetired_tables s w v x 0).2.2

@[simp] theorem slot_lastHoldRetired (n : SlotId) : (s.lastHoldRetired w x).slot n = s.slot n :=
  (lastHoldRetired_beside s w x).slot n

end

/-! ### The grant pass as a sequence of grants (R48) -/

/-- The wait list `l` of an OPEN window `w` without recall, whose holds are all SHARED. -/
structure BatchReady (w : WindowId) (l : List RecordId) (s : State) : Prop where
  opened : (s.window w).state = .opened
  idle : (s.claim w).marker = .idle
  list : (s.claim w).waitList = l
  nodup : l.Nodup
  waiting : ∀ r ∈ l, (s.record r).phase = .waiting ∧ (s.record r).window = w
  shared : ∀ q, s.isHoldOn w q = true → (s.record q).mode = .shared

section
variable {w : WindowId} {r : RecordId} {l : List RecordId} {s : State}

theorem BatchReady.grantHead (h : BatchReady w (r :: l) s) (hmode : (s.record r).mode = .shared) :
    PassStep w s (s.grant r) := by
  obtain ⟨hphase, hwindow⟩ := h.waiting r List.mem_cons_self
  exact .grantHead h.opened h.idle h.list hphase hwindow fun q hq => ⟨h.shared q hq, hmode⟩

/-- After a SHARED grant the rest of the list may be granted in the same way. -/
theorem BatchReady.grant (h : BatchReady w (r :: l) s) (hmode : (s.record r).mode = .shared) :
    BatchReady w l (s.grant r) := by
  obtain ⟨hr, hl⟩ := List.nodup_cons.mp h.nodup
  obtain ⟨⟨-, hwindow⟩, hwait⟩ := List.forall_mem_cons.mp h.waiting
  refine ⟨by simpa using h.opened, by simpa [hwindow] using h.idle, by simp [hwindow, h.list], hl, fun q hq => ?_,
    fun q hq => ?_⟩
  · have hne : q ≠ r := fun he => hr (he ▸ hq)
    simpa [hne] using hwait q hq
  · by_cases hqr : q = r
    · simp [hqr, hmode]
    · rw [record_grant, if_neg hqr]
      exact h.shared q (by simpa [State.isHoldOn, hqr] using hq)

end

/-- The SHARED records at the head of a list join the SHARED holds one by one (R48 step 4). -/
theorem grantBatch_steps {w : WindowId} : ∀ (l : List RecordId) (s : State), BatchReady w l s →
    Relation.ReflTransGen (PassStep w) s (s.grantBatch l)
  | [], _, _ => .refl
  | r :: l, s, h => by
    unfold State.grantBatch
    split
    · next hmode => exact .head (h.grantHead hmode) (grantBatch_steps l (s.grant r) (h.grant hmode))
    · exact .refl

/-- A grant pass is a sequence of grants, each of which may be made as the window then stands (R48). -/
theorem grantPass_steps {s : State} (h : WaitListsLawful s) (w : WindowId) :
    Relation.ReflTransGen (PassStep w) s (s.grantPass w) := by
  obtain ⟨hnodup, hmem⟩ := h w
  unfold State.grantPass
  split
  · next hopen =>
    obtain ⟨ho, hk⟩ := hopen
    unfold State.grantSteps
    split
    · next u hu =>
      split
      · next r hr =>
        split
        · next hslot => exact .single (.completeUpgrade ho hk hr (hu.trans (by rw [hslot])))
        · exact .refl
      · exact .refl
    · split
      · exact .refl
      · next r rest hlist =>
        have hwait : ∀ q ∈ r :: rest, (s.record q).phase = .waiting ∧ (s.record q).window = w := fun q hq =>
          (hmem q).mp (hlist ▸ hq)
        split
        · split
          · next hno =>
            have hr := hwait r List.mem_cons_self
            refine .single (.grantHead ho hk hlist hr.1 hr.2 fun q hq => ?_)
            simp [holders_eq_nil.mp hno q] at hq
          · exact .refl
        · split
          · next hall => exact grantBatch_steps _ s ⟨ho, hk, hlist, hlist ▸ hnodup, hwait, allShared_iff.mp hall⟩
          · exact .refl
  · exact .refl

/-- What each grant keeps, the grant pass keeps. -/
theorem grantPass_keeps {P : State → Prop} {w : WindowId} (hlists : ∀ {s}, P s → WaitListsLawful s)
    (h : ∀ {s t}, P s → PassStep w s t → P t) {s : State} (hs : P s) : P (s.grantPass w) := by
  have keep : ∀ t, Relation.ReflTransGen (PassStep w) s t → P t := fun t ht => by
    induction ht with
    | refl => exact hs
    | tail _ hc ih => exact h ih hc
  exact keep _ (grantPass_steps (hlists hs) w)

end Sys2Proof.Machine
end

section
/-! SUPPORT. Every change keeps the laws of the Claim Table and the quotas (R21, R25, R26, R30, R32). -/

namespace Sys2Proof.Machine

/-! ### Records in use -/

/-- Every record in use in the second state was in use in the first, for the same slot on the same window. -/
def UsedFrom (s t : State) : Prop :=
  ∀ r, (t.record r).phase ≠ .free → (s.record r).phase ≠ .free ∧ (t.record r).slot = (s.record r).slot ∧
    (t.record r).window = (s.record r).window

section
variable {s t u : State} {w : WindowId} {r : RecordId}

theorem UsedFrom.of_records (h : ∀ r, t.record r = s.record r) : UsedFrom s t := fun r hr => by
  rw [h] at hr ⊢
  exact ⟨hr, rfl, rfl⟩

theorem UsedFrom.trans (h : UsedFrom s t) (k : UsedFrom t u) : UsedFrom s u := fun r hr => by
  obtain ⟨hr, hslot, hwindow⟩ := k r hr
  obtain ⟨hr', hslot', hwindow'⟩ := h r hr
  exact ⟨hr', hslot.trans hslot', hwindow.trans hwindow'⟩

/-- Only record `r` changes, and it was in use for the same slot on the same window. -/
theorem UsedFrom.of_one (hf : (s.record r).phase ≠ .free) (hslot : (t.record r).slot = (s.record r).slot)
    (hwindow : (t.record r).window = (s.record r).window) (h : ∀ q, q ≠ r → t.record q = s.record q) :
    UsedFrom s t := fun q hq => by
  by_cases hqr : q = r
  · subst hqr
    exact ⟨hf, hslot, hwindow⟩
  · rw [h q hqr] at hq ⊢
    exact ⟨hq, rfl, rfl⟩

theorem Thinned.usedFrom (h : Thinned w s t) : UsedFrom s t := fun _ hr =>
  have hrun := h.used hr
  ⟨fun hf => hr (hrun.free_iff.mpr hf), hrun.slot_eq, hrun.window_eq⟩

theorem grant_usedFrom (hr : (s.record r).phase = .waiting) : UsedFrom s (s.grant r) :=
  .of_one (r := r) (by simp [hr]) (by simp) (by simp) fun q hq => by simp [hq]

theorem PassStep.usedFrom (h : PassStep w s t) : UsedFrom s t := by
  cases h with
  | grantHead _ _ _ waiting _ _ => exact grant_usedFrom waiting
  | @completeUpgrade r _ _ holders _ =>
    have hr : s.isHoldOn w r = true := mem_holders.mp (by simp [holders])
    have hf := ClaimPhase.ne_free_of_isHold (isHoldOn_iff.mp hr).1
    exact .of_one (r := r) hf (by simp) (by simp) fun q hq => by simp [hq]

/-- The recall of a window's holds keeps every record in use for its slot and window. -/
theorem UsedFrom.of_recall {limit : BitVec 8}
    (h : ∀ r, t.record r = if s.isHoldOn w r = true then (s.record r).recall limit else s.record r) :
    UsedFrom s t := fun r hr => by
  rw [h] at hr ⊢
  split
  · next hh => exact ⟨ClaimPhase.ne_free_of_isHold (isHoldOn_iff.mp hh).1, by simp, by simp⟩
  · next hh =>
    rw [if_neg hh] at hr
    exact ⟨hr, rfl, rfl⟩

theorem UsedFrom.inUse_le (h : UsedFrom s t) (n : SlotId) : t.inUse n ≤ s.inUse n :=
  Machine.inUse_le fun r hr hslot => ⟨(h r hr).1, (h r hr).2.1.symm.trans hslot⟩

end

/-! ### Each law, by what a change does to the records -/

section
variable {s t : State} {w : WindowId} {r : RecordId}

theorem WaitListsLawful.congr (h : WaitListsLawful s) (hl : ∀ w, (t.claim w).waitList = (s.claim w).waitList)
    (hr : ∀ r w, ((t.record r).phase = .waiting ∧ (t.record r).window = w) ↔
      ((s.record r).phase = .waiting ∧ (s.record r).window = w)) : WaitListsLawful t := fun w => by
  obtain ⟨hnodup, hmem⟩ := h w
  exact hl w ▸ ⟨hnodup, fun r => (hmem r).trans (hr r w).symm⟩

theorem OneRecordEach.of_usedFrom (h : OneRecordEach s) (k : UsedFrom s t) : OneRecordEach t := fun q r hne hq hr => by
  obtain ⟨hq', hqs, hqw⟩ := k q hq
  obtain ⟨hr', hrs, hrw⟩ := k r hr
  rw [hqs, hqw, hrs, hrw]
  exact h q r hne hq' hr'

/-- A record filled in for a slot that has none on the window. -/
theorem OneRecordEach.of_one (h : OneRecordEach s) (others : ∀ q, q ≠ r → t.record q = s.record q)
    (apart : ∀ q, (s.record q).phase ≠ .free →
      ¬((s.record q).slot = (t.record r).slot ∧ (s.record q).window = (t.record r).window)) : OneRecordEach t :=
  fun p q hne hp hq => by
    by_cases hpr : p = r
    · subst hpr
      rw [others q hne.symm] at hq ⊢
      exact fun he => apart q hq ⟨he.1.symm, he.2.symm⟩
    · rw [others p hpr] at hp ⊢
      by_cases hqr : q = r
      · subst hqr
        exact apart p hp
      · rw [others q hqr] at hq ⊢
        exact h p q hne hp hq

/-- Holds that were holds before, in their mode or made SHARED. -/
theorem HoldersLawful.of_kept (h : HoldersLawful s)
    (k : ∀ r, (t.record r).phase.isHold = true → (s.record r).phase.isHold = true ∧
      (t.record r).window = (s.record r).window ∧
        ((t.record r).mode = (s.record r).mode ∨ (t.record r).mode = .shared)) :
    HoldersLawful t := fun q r hne hq hr hw => by
  obtain ⟨hq', hqw, hqm⟩ := k q hq
  obtain ⟨hr', hrw, hrm⟩ := k r hr
  obtain ⟨hqs, hrs⟩ := h q r hne hq' hr' (by rw [← hqw, ← hrw, hw])
  exact ⟨hqm.elim (·.trans hqs) id, hrm.elim (·.trans hrs) id⟩

/-- One hold that the others on its window, all SHARED, let in. -/
theorem HoldersLawful.of_one (h : HoldersLawful s) (others : ∀ q, q ≠ r → t.record q = s.record q)
    (joins : (t.record r).phase.isHold = true → ∀ q, q ≠ r → s.isHoldOn (t.record r).window q = true →
      (s.record q).mode = .shared ∧ (t.record r).mode = .shared) : HoldersLawful t := fun p q hne hp hq hw => by
  by_cases hpr : p = r
  · subst hpr
    rw [others q hne.symm] at hq hw ⊢
    exact (joins hp q hne.symm (isHoldOn_iff.mpr ⟨hq, hw.symm⟩)).symm
  · rw [others p hpr] at hp hw ⊢
    by_cases hqr : q = r
    · subst hqr
      exact joins hq p hpr (isHoldOn_iff.mpr ⟨hp, hw⟩)
    · rw [others q hqr] at hq hw ⊢
      exact h p q hne hp hq hw

theorem PoolLawful.of_kept (h : PoolLawful s)
    (k : ∀ r, (t.record r).phase = .free → t.record r = .cleared ∨ t.record r = s.record r) : PoolLawful t :=
  fun r hr => by
    obtain hc | hs := k r hr
    · exact hc
    · rw [hs] at hr ⊢
      exact h r hr

/-- Only one record changes, and it is in use. -/
theorem PoolLawful.of_one (h : PoolLawful s) (others : ∀ q, q ≠ r → t.record q = s.record q)
    (hr : (t.record r).phase ≠ .free) : PoolLawful t :=
  h.of_kept fun q hq => .inr (others q fun he => hr (he ▸ hq))

theorem ClaimsLawful.congr (h : ClaimsLawful s) (hr : ∀ r, t.record r = s.record r)
    (hl : ∀ w, (t.claim w).waitList = (s.claim w).waitList) : ClaimsLawful t where
  waitLists := h.waitLists.congr hl fun r w => by rw [hr]
  pool := h.pool.of_kept fun r _ => .inr (hr r)
  oneEach := h.oneEach.of_usedFrom (.of_records hr)
  holders := h.holders.of_kept fun r hh => by
    rw [hr] at hh ⊢
    exact ⟨hh, rfl, .inl rfl⟩

theorem ClaimsLawful.of_tables (h : ClaimsLawful s) (k : SameTables s t) : ClaimsLawful t :=
  h.congr (fun r => by simp only [State.record, k.records]) fun w => by simp only [State.claim, k.claims]

/-- A slot has at most one record on a window (R30). -/
theorem OneRecordEach.eq_of_same (h : OneRecordEach s) {q : RecordId} (hq : (s.record q).phase ≠ .free)
    (hr : (s.record r).phase ≠ .free) (hslot : (s.record q).slot = (s.record r).slot)
    (hwindow : (s.record q).window = (s.record r).window) : q = r := by
  by_contra hne
  exact h q r hne hq hr ⟨hslot, hwindow⟩

/-! ### Granting -/

theorem WaitListsLawful.grant (h : WaitListsLawful s) : WaitListsLawful (s.grant r) := fun v => by
  obtain ⟨hnodup, hmem⟩ := h v
  have hlist : ((s.grant r).claim v).waitList = (s.claim v).waitList.erase r := by
    rw [claim_grant]
    split
    · rfl
    · next hv => exact (List.erase_of_not_mem fun hm => hv ((hmem r).mp hm).2.symm).symm
  rw [hlist]
  refine ⟨hnodup.erase r, fun q => ?_⟩
  rw [hnodup.mem_erase_iff, hmem]
  by_cases hq : q = r <;> simp [hq]

/-- A waiting claim that the holds let in may be granted (R47). -/
theorem ClaimsLawful.grant (h : ClaimsLawful s) (hr : (s.record r).phase = .waiting)
    (joins : ∀ q, s.isHoldOn (s.record r).window q = true → (s.record q).mode = .shared ∧ (s.record r).mode = .shared) :
    ClaimsLawful (s.grant r) where
  waitLists := h.waitLists.grant
  pool := h.pool.of_one (r := r) (fun q hq => by simp [hq]) (by simp)
  oneEach := h.oneEach.of_usedFrom (grant_usedFrom hr)
  holders := h.holders.of_one (r := r) (fun q hq => by simp [hq]) fun _ q _ hq => by
    simpa using joins q (by simpa using hq)

/-- A hold changes its mode, state or counter: to SHARED, or in whatever way where it is alone. -/
theorem ClaimsLawful.of_hold (h : ClaimsLawful s) (hr : (s.record r).phase.isHold = true)
    (hrt : (t.record r).phase.isHold = true) (hslot : (t.record r).slot = (s.record r).slot)
    (hwindow : (t.record r).window = (s.record r).window) (others : ∀ q, q ≠ r → t.record q = s.record q)
    (hlist : ∀ v, (t.claim v).waitList = (s.claim v).waitList)
    (mode : (t.record r).mode = (s.record r).mode ∨ (t.record r).mode = .shared ∨
      s.holders (s.record r).window = [r]) : ClaimsLawful t where
  waitLists := h.waitLists.congr hlist fun q v => by
    by_cases hq : q = r
    · subst hq
      simp [ClaimPhase.ne_waiting_of_isHold hr, ClaimPhase.ne_waiting_of_isHold hrt]
    · rw [others q hq]
  pool := h.pool.of_one others (ClaimPhase.ne_free_of_isHold hrt)
  oneEach := h.oneEach.of_usedFrom (.of_one (ClaimPhase.ne_free_of_isHold hr) hslot hwindow others)
  holders := by
    by_cases halone : s.holders (s.record r).window = [r]
    · refine h.holders.of_one others fun _ q hq hh => absurd ?_ hq
      rw [hwindow, ← mem_holders, halone] at hh
      exact List.mem_singleton.mp hh
    · refine h.holders.of_kept fun q hh => ?_
      by_cases hq : q = r
      · subst hq
        exact ⟨hr, hwindow, mode.imp_right fun hm => hm.resolve_right halone⟩
      · rw [others q hq] at hh ⊢
        exact ⟨hh, rfl, .inl rfl⟩

theorem ClaimsLawful.passStep (h : ClaimsLawful s) (k : PassStep w s t) : ClaimsLawful t := by
  cases k with
  | grantHead _ _ _ waiting window joins => exact h.grant waiting (window ▸ joins)
  | @completeUpgrade r _ _ holders _ =>
    obtain ⟨hh, hw⟩ := isHoldOn_iff.mp (mem_holders.mp (by simp [holders] : r ∈ s.holders w))
    exact h.of_hold hh (by simp) (by simp) (by simp) (fun q hq => by simp [hq])
      (fun v => by by_cases hv : v = w <;> simp [hv]) (.inr (.inr (hw ▸ holders)))

/-- A grant pass keeps the laws, and every record in use for its slot and window (R47, R49). -/
theorem ClaimsLawful.grantPass_usedFrom (h : ClaimsLawful s) (w : WindowId) :
    ClaimsLawful (s.grantPass w) ∧ UsedFrom s (s.grantPass w) :=
  grantPass_keeps (P := fun t => ClaimsLawful t ∧ UsedFrom s t) (fun ht => ht.1.waitLists)
    (fun ht k => ⟨ht.1.passStep k, ht.2.trans k.usedFrom⟩) ⟨h, .of_records fun _ => rfl⟩

theorem ClaimsLawful.grantPass (h : ClaimsLawful s) (w : WindowId) : ClaimsLawful (s.grantPass w) :=
  (h.grantPass_usedFrom w).1

theorem ClaimsLawful.usedFrom_grantPass (h : ClaimsLawful s) (w : WindowId) : UsedFrom s (s.grantPass w) :=
  (h.grantPass_usedFrom w).2

/-! ### Retiring -/

theorem WaitListsLawful.thinned (h : WaitListsLawful s) (k : Thinned w s t) : WaitListsLawful t := fun v => by
  obtain ⟨hnodup, hmem⟩ := h v
  by_cases hv : v = w
  · subst hv
    rw [k.waitList]
    refine ⟨hnodup.filter _, fun r => ?_⟩
    rw [List.mem_filter, hmem, decide_eq_true_eq]
    constructor
    · rintro ⟨⟨hp, hw⟩, hf⟩
      have hrun := k.used hf
      exact ⟨hrun.waiting_iff.mpr hp, hrun.window_eq.trans hw⟩
    · rintro ⟨hp, hw⟩
      have hf : (t.record r).phase ≠ .free := by simp [hp]
      have hrun := k.used hf
      exact ⟨⟨hrun.waiting_iff.mp hp, hrun.window_eq.symm.trans hw⟩, hf⟩
  · rw [k.otherClaims v hv]
    refine ⟨hnodup, fun r => (hmem r).trans ?_⟩
    obtain ⟨hc, -, hw⟩ | hrun := k.record r
    · simp [hc, hw, Ne.symm hv]
    · rw [hrun.waiting_iff, hrun.window_eq]

theorem ClaimsLawful.thinned (h : ClaimsLawful s) (k : Thinned w s t) : ClaimsLawful t where
  waitLists := h.waitLists.thinned k
  pool := h.pool.of_kept fun r hf => by
    obtain ⟨hc, -⟩ | hrun := k.record r
    · exact .inl hc
    · exact .inr (hrun.eq_of_free (hrun.free_iff.mp hf))
  oneEach := h.oneEach.of_usedFrom k.usedFrom
  holders := h.holders.of_kept fun r hh => by
    have hrun := k.used (ClaimPhase.ne_free_of_isHold hh)
    exact ⟨hrun.isHold_eq ▸ hh, hrun.window_eq, .inl hrun.mode_eq⟩

theorem ClaimsLawful.lastHoldRetired (h : ClaimsLawful s) (w : WindowId) (x : Option SlotId) :
    ClaimsLawful (s.lastHoldRetired w x) :=
  h.congr (fun r => by simp) fun v => by by_cases hv : v = w <;> simp [hv]

/-- The follow-ups keep the laws, and every record in use for its slot and window (R35). -/
theorem ClaimsLawful.followUps_usedFrom (h : ClaimsLawful s) (w : WindowId) (held : Bool) (x : Option SlotId) :
    ClaimsLawful (s.followUps w held x) ∧ UsedFrom s (s.followUps w held x) := by
  unfold State.followUps
  split
  · obtain ⟨hc, hu⟩ := (h.lastHoldRetired w x).grantPass_usedFrom w
    exact ⟨hc, .trans (.of_records fun r => by simp) hu⟩
  · exact h.grantPass_usedFrom w

theorem ClaimsLawful.retire (h : ClaimsLawful s) (hr : (s.record r).phase ≠ .free) : ClaimsLawful (s.retire r) :=
  h.thinned (retire_thinned h.waitLists hr rfl)

/-! ### Filling in, moving and recalling records -/

/-- A record filled in for a slot that may claim the window, with its place in the list where it waits. -/
theorem ClaimsLawful.of_claimable {c : SlotId} (h : ClaimsLawful s) (k : Claimable s c w r)
    (hslot : (t.record r).slot = c) (hwindow : (t.record r).window = w) (hused : (t.record r).phase ≠ .free)
    (others : ∀ q, q ≠ r → t.record q = s.record q) (hlists : WaitListsLawful t)
    (joins : (t.record r).phase.isHold = true → ∀ q, s.isHoldOn w q = true →
      (s.record q).mode = .shared ∧ (t.record r).mode = .shared) : ClaimsLawful t where
  waitLists := hlists
  pool := h.pool.of_one others hused
  oneEach := h.oneEach.of_one others (by rw [hslot, hwindow]; exact k.apart)
  holders := h.holders.of_one others fun hh q _ hq => joins hh q (hwindow ▸ hq)

/-- A FREE record stands in no wait list. -/
theorem WaitListsLawful.not_mem_of_free (h : WaitListsLawful s) (hr : (s.record r).phase = .free) (v : WindowId) :
    r ∉ (s.claim v).waitList := fun hm => by
  have := (((h v).2 r).mp hm).1
  simp [hr] at this

/-- One record is added somewhere in one wait list. -/
theorem WaitListsLawful.insert (h : WaitListsLawful s) (hr : (s.record r).phase = .free)
    (hphase : (t.record r).phase = .waiting) (hwindow : (t.record r).window = w)
    (others : ∀ q, q ≠ r → t.record q = s.record q) (hlist : ((t.claim w).waitList).Perm (r :: (s.claim w).waitList))
    (otherLists : ∀ v, v ≠ w → (t.claim v).waitList = (s.claim v).waitList) : WaitListsLawful t := fun v => by
  obtain ⟨hnodup, hmem⟩ := h v
  by_cases hv : v = w
  · subst hv
    refine ⟨hlist.nodup_iff.mpr (List.nodup_cons.mpr ⟨h.not_mem_of_free hr v, hnodup⟩), fun q => ?_⟩
    rw [hlist.mem_iff, List.mem_cons, hmem]
    by_cases hq : q = r
    · simp [hq, hphase, hwindow]
    · simp [hq, others q hq]
  · rw [otherLists v hv]
    refine ⟨hnodup, fun q => (hmem q).trans ?_⟩
    by_cases hq : q = r
    · subst hq
      simp [hr, hwindow, Ne.symm hv]
    · rw [others q hq]

theorem ClaimsLawful.insertHead {b : SlotId} (h : ClaimsLawful s) (k : Claimable s b w r) :
    ClaimsLawful (s.insertHead w b r) := by
  have others : ∀ q, q ≠ r → (s.insertHead w b r).record q = s.record q := fun q hq => by simp [hq]
  refine h.of_claimable k (by simp) (by simp) (by simp) others
    (h.waitLists.insert (r := r) (w := w) k.free (by simp) (by simp) others (by simp) fun v hv => by simp [hv])
    fun hh => ?_
  simp at hh

theorem ClaimsLawful.moveToHead {b : SlotId} (h : ClaimsLawful s) (k : s.waitingOf b w = some r) :
    ClaimsLawful (s.moveToHead w r) := by
  obtain ⟨hphase, -, hwindow⟩ := waitingOf_some k
  have others : ∀ q, q ≠ r → (s.moveToHead w r).record q = s.record q := fun q hq => by simp [hq]
  have hrecord : ∀ q, ((s.moveToHead w r).record q).phase = (s.record q).phase ∧
      ((s.moveToHead w r).record q).window = (s.record q).window ∧
      ((s.moveToHead w r).record q).mode = (s.record q).mode := fun q => by
    by_cases hq : q = r <;> simp [hq]
  refine ⟨fun v => ?_, h.pool.of_one (r := r) others (by simp [hphase]),
    h.oneEach.of_usedFrom (.of_one (r := r) (by simp [hphase]) (by simp) (by simp) others),
    h.holders.of_kept fun q hq => ⟨(hrecord q).1 ▸ hq, (hrecord q).2.1, .inl (hrecord q).2.2⟩⟩
  obtain ⟨hnodup, hmem⟩ := h.waitLists v
  simp only [(hrecord _).1, (hrecord _).2.1, ← hmem, claim_moveToHead]
  by_cases hv : v = w
  · subst hv
    have hperm : (r :: (s.claim v).waitList.erase r).Perm (s.claim v).waitList :=
      (List.perm_cons_erase ((hmem r).mpr ⟨hphase, hwindow⟩)).symm
    rw [if_pos rfl]
    exact ⟨hperm.nodup_iff.mpr hnodup, fun q => hperm.mem_iff⟩
  · rw [if_neg hv]
    exact ⟨hnodup, fun _ => .rfl⟩

/-- Placing a beneficiary keeps the laws (R96). -/
theorem ClaimsLawful.placed {b : SlotId} (h : ClaimsLawful s) (k : Placed w b s t) : ClaimsLawful t := by
  cases k with
  | moved waiting => exact h.moveToHead waiting
  | inserted claimable => exact h.insertHead claimable

/-- The recall of a window's holds keeps the laws (R95, R102). -/
theorem ClaimsLawful.of_recall {limit : BitVec 8} (h : ClaimsLawful s)
    (k : ∀ r, t.record r = if s.isHoldOn w r = true then (s.record r).recall limit else s.record r)
    (hlist : ∀ v, (t.claim v).waitList = (s.claim v).waitList) : ClaimsLawful t where
  waitLists := h.waitLists.congr hlist fun r v => by
    rw [k]
    split
    · next hh => simp [ClaimPhase.ne_waiting_of_isHold (isHoldOn_iff.mp hh).1]
    · rfl
  pool := h.pool.of_kept fun r hf => by
    rw [k] at hf ⊢
    split
    · next hh => simp [hh] at hf
    · exact .inr rfl
  oneEach := h.oneEach.of_usedFrom (.of_recall k)
  holders := h.holders.of_kept fun r hh => by
    rw [k] at hh ⊢
    split
    · next hold => exact ⟨(isHoldOn_iff.mp hold).1, by simp, .inl (by simp)⟩
    · next hold =>
      rw [if_neg hold] at hh
      exact ⟨hh, rfl, .inl rfl⟩

theorem ClaimsLawful.markRecall (h : ClaimsLawful s) (w : WindowId) (b : Option SlotId) :
    ClaimsLawful (s.markRecall w b) :=
  h.of_recall (record_markRecall s w b) fun v => by by_cases hv : v = w <;> simp [hv]

theorem ClaimsLawful.drain (h : ClaimsLawful s) (w : WindowId) (u : Option SlotId) : ClaimsLawful (s.drain w u) :=
  h.of_recall (record_drain s w u) fun v => by by_cases hv : v = w <;> simp [hv]

theorem ClaimsLawful.of_cleared (hr : ∀ r, s.record r = .cleared) (hc : ∀ w, s.claim w = .cleared) :
    ClaimsLawful s where
  waitLists w := by simp [hr, hc, WindowClaims.cleared]
  pool r _ := hr r
  oneEach q r _ hq := absurd (by rw [hr]; rfl) hq
  holders q r _ hq := by simp [hr] at hq

theorem grantableAtOnce_iff {m : Mode} :
    s.grantableAtOnce w m = true ↔ (s.claim w).waitList = [] ∧ (s.claim w).marker = .idle ∧
      (s.claim w).upgrader = none ∧
      ∀ q, s.isHoldOn w q = true → (s.record q).mode = .shared ∧ m = .shared := by
  cases m with
  | shared => simp [State.grantableAtOnce, allShared_iff, and_assoc]
  | exclusive => simp [State.grantableAtOnce, holders_eq_nil, and_assoc]

/-- Every change keeps the laws of the Claim Table (R21, R25, R26, R30). -/
theorem ClaimsLawful.change (h : ClaimsLawful s) (k : Change s t) : ClaimsLawful t := by
  cases k with
  | quiet tables _ => exact h.of_tables tables
  | pass k => exact h.passStep k
  | thin k _ => exact h.thinned k
  | endHolds k x => exact ((h.thinned k).followUps_usedFrom _ true x).1
  | @takeHold c w m r tag claimable atOnce =>
    obtain ⟨-, -, -, joins⟩ := grantableAtOnce_iff.mp atOnce
    refine h.of_claimable claimable (by simp) (by simp) (by simp) (fun q hq => by simp [hq])
      (h.waitLists.congr (fun v => rfl) fun q v => ?_) fun _ q hq => by simpa using joins q hq
    by_cases hq : q = r <;> simp [hq, claimable.free]
  | @enqueue c w r m tag wait claimable =>
    have others : ∀ q, q ≠ r → (s.enqueueClaim c w m tag wait r).record q = s.record q := fun q hq => by simp [hq]
    refine h.of_claimable claimable (by simp) (by simp) (by simp) others
      (h.waitLists.insert (r := r) (w := w) claimable.free (by simp) (by simp) others ?_ fun v hv => by simp [hv])
      fun hh => ?_
    · simp
    · simp at hh
  | @restart r m hold _ mode _ =>
    exact h.of_hold hold (by simp) (by simp) (by simp) (fun q hq => by simp [hq]) (fun v => rfl) (by simpa using mode)
  | setUpgrader u _ => exact h.congr (fun r => by simp) fun v => by simp only [State.claim_setClaim]; split <;> simp_all
  | @transfer w r q _ hold exclusive waiting window =>
    obtain ⟨hh, hw⟩ := isHoldOn_iff.mp hold
    obtain ⟨hthin, hq⟩ := transfer_thinned h.waitLists hold waiting
    refine (h.thinned hthin).grant (by rw [hq, waiting]) fun p hp => ?_
    obtain ⟨hpr, hph, hpw⟩ : p ≠ r ∧ (s.record p).phase.isHold = true ∧ (s.record p).window = w := by
      by_cases hpr : p = r
      · simp [State.isHoldOn, hpr] at hp
      · rw [hq, window] at hp
        simpa [State.isHoldOn, hpr] using hp
    have hshared := (h.holders p r hpr hph hh (hpw.trans hw.symm)).2
    simp [exclusive] at hshared
  | redefine _ _ => exact h.congr (fun _ => rfl) fun _ => rfl
  | drain u _ _ _ => exact h.drain _ u
  | recallHeld _ _ _ => exact h.markRecall _ none
  | recallFor _ _ _ k => exact (h.markRecall _ _).placed k
  | recallUnheld _ _ _ k => exact (h.placed k).grantPass _
  | reset records claims _ => exact .of_cleared records claims

theorem ClaimsLawful.changes (h : ClaimsLawful s) (k : Changes s t) : ClaimsLawful t := k.keep .change h

end

/-! ### Quotas (R32) -/

section
variable {s t : State} {w : WindowId} {r : RecordId}

theorem QuotasLawful.of_usedFrom (h : QuotasLawful s) (k : UsedFrom s t) (hs : ∀ n, t.slot n = s.slot n) :
    QuotasLawful t := fun n => by
  rw [hs]
  exact (k.inUse_le n).trans (h n)

/-- A record filled in for a slot whose quota has room. -/
theorem QuotasLawful.of_claimable {c : SlotId} (h : QuotasLawful s) (k : Claimable s c w r)
    (hslot : (t.record r).slot = c) (hused : (t.record r).phase ≠ .free)
    (others : ∀ q, q ≠ r → t.record q = s.record q) (hs : ∀ n, t.slot n = s.slot n) : QuotasLawful t := fun n => by
  rw [hs]
  by_cases hn : n = c
  · subst hn
    have hadd : s.inUse n + 1 = t.inUse n :=
      inUse_add_one ⟨hused, hslot⟩ (by simp [k.free]) fun q hq => (others q hq).symm
    exact hadd ▸ k.room
  · refine le_trans (inUse_le fun q hq hqn => ?_) (h n)
    by_cases hqr : q = r
    · exact absurd (hqn.symm.trans (hqr ▸ hslot)) hn
    · rw [others q hqr] at hq hqn
      exact ⟨hq, hqn⟩

theorem QuotasLawful.placed {b : SlotId} (h : QuotasLawful s) (k : Placed w b s t) : QuotasLawful t := by
  cases k with
  | @moved r waiting =>
    obtain ⟨hphase, -⟩ := waitingOf_some waiting
    exact h.of_usedFrom (.of_one (r := r) (by simp [hphase]) (by simp) (by simp) fun q hq => by simp [hq]) fun n => by
      simp
  | inserted claimable =>
    exact h.of_claimable claimable (by simp) (by simp) (fun q hq => by simp [hq]) fun n => by simp

theorem QuotasLawful.grantPass (h : QuotasLawful s) (hc : ClaimsLawful s) (w : WindowId) :
    QuotasLawful (s.grantPass w) := h.of_usedFrom (hc.usedFrom_grantPass w) (grantPass_beside s w).slot

/-- Every change keeps each slot's records in use within its quota (R32). -/
theorem QuotasLawful.change (h : QuotasLawful s) (hc : ClaimsLawful s) (k : Change s t) : QuotasLawful t := by
  cases k with
  | quiet tables standing =>
    intro n
    rw [inUse_congr (s := s) (fun r => by simp only [State.record, tables.records])]
    exact standing.quota n (h n)
  | pass k =>
    refine h.of_usedFrom k.usedFrom fun n => ?_
    cases k <;> simp
  | thin k _ => exact h.of_usedFrom k.usedFrom k.slot
  | endHolds k x =>
    exact h.of_usedFrom (k.usedFrom.trans ((hc.thinned k).followUps_usedFrom _ true x).2) fun n =>
      ((followUps_beside ..).slot n).trans (k.slot n)
  | takeHold tag claimable _ =>
    exact h.of_claimable claimable (by simp) (by simp) (fun q hq => by simp [hq]) fun n => by simp
  | enqueue m tag wait claimable =>
    exact h.of_claimable claimable (by simp) (by simp) (fun q hq => by simp [hq]) fun n => by simp
  | @restart r m hold _ _ _ =>
    exact h.of_usedFrom (.of_one (r := r) (ClaimPhase.ne_free_of_isHold hold) (by simp) (by simp) fun q hq => by
      simp [hq]) fun n => by simp
  | setUpgrader u _ => exact h.of_usedFrom (.of_records fun r => by simp) fun n => by simp
  | @transfer w r q _ hold _ waiting _ =>
    obtain ⟨hthin, hq⟩ := transfer_thinned hc.waitLists hold waiting
    exact h.of_usedFrom (hthin.usedFrom.trans (grant_usedFrom (by rw [hq, waiting]))) fun n => by simp
  | redefine _ _ => exact h
  | drain u _ _ _ => exact h.of_usedFrom (.of_recall (record_drain s _ u)) fun n => by simp
  | recallHeld _ _ _ => exact h.of_usedFrom (.of_recall (record_markRecall s _ none)) fun n => by simp
  | @recallFor w b _ _ _ _ k =>
    exact QuotasLawful.placed (h.of_usedFrom (.of_recall (record_markRecall s w (some b))) fun n => by simp) k
  | recallUnheld _ _ _ k => exact (h.placed k).grantPass (hc.placed k) _
  | reset records _ _ =>
    intro n
    have : t.inUse n = 0 := by simp [State.inUse, records]
    simp [this]

end

end Sys2Proof.Machine
end

section
/-! SUPPORT. Every step is a sequence of changes; so every step keeps the laws of the Claim Table and the quotas. -/

namespace Sys2Proof.Machine

/-! ### Operations that leave the tables as they are -/

/-- The tables stay, and with them each slot's state and quota. -/
structure Still (s t : State) : Prop where
  tables : SameTables s t
  state : ∀ n, (t.slot n).state = (s.slot n).state
  quota : ∀ n, (t.slot n).quota = (s.slot n).quota

section
variable {s t u : State}

theorem Still.refl (s : State) : Still s s := ⟨⟨rfl, rfl, rfl⟩, fun _ => rfl, fun _ => rfl⟩

theorem Still.trans (h : Still s t) (k : Still t u) : Still s u where
  tables := ⟨k.tables.windows.trans h.tables.windows, k.tables.records.trans h.tables.records,
    k.tables.claims.trans h.tables.claims⟩
  state n := (k.state n).trans (h.state n)
  quota n := (k.quota n).trans (h.quota n)

theorem Still.of_slots (h : SameTables s t) (k : t.slots = s.slots) : Still s t :=
  ⟨h, fun n => by simp only [State.slot, k], fun n => by simp only [State.slot, k]⟩

theorem Still.foldl {α : Type} {f : State → α → State} (h : ∀ s a, Still s (f s a)) (l : List α) (s : State) :
    Still s (l.foldl f s) := foldl_keeps (fun _ a ht => ht.trans (h _ a)) l s (.refl s)

/-- One slot record changes, but neither its state nor its quota. -/
theorem Still.setSlot {n : SlotId} {x : SlotRecord} (hstate : x.state = (s.slot n).state)
    (hquota : x.quota = (s.slot n).quota) : Still s (s.setSlot n x) :=
  ⟨⟨rfl, rfl, rfl⟩, fun m => by by_cases hm : m = n <;> simp [hm, hstate],
    fun m => by by_cases hm : m = n <;> simp [hm, hquota]⟩

theorem post_still (s : State) (n : SlotId) (x : Subject) (b : NoticeBody) : Still s (s.post n x b) :=
  .of_slots (post_tables s n x b) (post_beside s n x b).slots

theorem postToMaster_still (s : State) (except : Option SlotId) (x : Subject) (b : NoticeBody) :
    Still s (s.postToMaster except x b) :=
  .of_slots (postToMaster_tables s except x b) (postToMaster_beside s except x b).slots

theorem reportSlotChange_still (s : State) (n : SlotId) : Still s (s.reportSlotChange n) := postToMaster_still ..

theorem clearPort_still (s : State) (n : SlotId) : Still s (s.clearPort n) := .of_slots ⟨rfl, rfl, rfl⟩ rfl

theorem clearPortAndParams_still (s : State) (n : SlotId) : Still s (s.clearPortAndParams n) :=
  .of_slots ⟨rfl, rfl, rfl⟩ rfl

theorem exitPort_still (s : State) (n : SlotId) (reason : ExitReason) : Still s (s.exitPort n reason) := by
  cases reason with
  | none | left | reset | removed => exact .of_slots ⟨rfl, rfl, rfl⟩ rfl
  | silent | evicted => exact Still.trans (.of_slots (t := s.emptyQueue n) ⟨rfl, rfl, rfl⟩ rfl) (post_still ..)

theorem tellVacant_still (s : State) (m : SlotId) : Still s (s.tellVacant m) := by
  unfold State.tellVacant
  split
  · exact post_still ..
  · exact .refl s

theorem exitRole_still (s : State) (n : SlotId) : Still s (s.exitRole n) := by
  unfold State.exitRole
  split
  · exact Still.trans (.of_slots (t := s.setMaster none) ⟨rfl, rfl, rfl⟩ rfl) (.foldl tellVacant_still _ _)
  · exact .refl s

theorem reloadSilence_still (s : State) (n : SlotId) : Still s (s.reloadSilence n) := by
  unfold State.reloadSilence
  split
  · exact .setSlot rfl rfl
  · exact .refl s

theorem selectTick_still (s : State) (select : Fin 4) : Still s (s.selectTick select) := by
  unfold State.selectTick
  split
  · exact .refl s
  · exact .of_slots ⟨rfl, rfl, rfl⟩ rfl

theorem writePort_still (s : State) (n : SlotId) (offset : Nat) (value : Word) :
    Still s (s.writePort n offset value) := by
  unfold State.writePort
  repeat' split
  all_goals exact .of_slots ⟨rfl, rfl, rfl⟩ rfl

theorem readPort_still (s : State) (n : SlotId) (offset : Nat) : Still s (s.readPort n offset) := by
  unfold State.readPort
  split <;> exact .of_slots ⟨rfl, rfl, rfl⟩ rfl

theorem portCycle_still (s : State) (n : SlotId) {access : State → State} (h : ∀ s, Still s (access s)) :
    Still s (s.portCycle n access) := by
  unfold State.portCycle
  repeat' split
  · exact .refl s
  · exact .of_slots ⟨rfl, rfl, rfl⟩ rfl
  · exact (reloadSilence_still s n).trans (h _)

theorem refclk_still (s : State) : Still s s.refclk := by
  unfold State.refclk
  repeat' split
  all_goals exact .of_slots ⟨rfl, rfl, rfl⟩ rfl

theorem Changes.of_still (h : Still s t) : Changes s t :=
  .single (.quiet h.tables ⟨fun n hn => .inl ((h.state n).trans hn), fun n hn => (h.quota n).symm ▸ hn⟩)

theorem Changes.still (h : Changes s t) (k : Still t u) : Changes s u := h.trans (Changes.of_still k)

/-- A slot record changes whose slot has no record in use or is not ACTIVE, or stays so; its quota stays. -/
theorem setSlot_changes {n : SlotId} {x : SlotRecord} (hquota : x.quota = (s.slot n).quota)
    (hactive : (s.slot n).state = .active →
      x.state = .active ∨ ∀ r, (s.record r).phase ≠ .free → (s.record r).slot ≠ n) : Changes s (s.setSlot n x) := by
  refine .single (.quiet ⟨rfl, rfl, rfl⟩ ⟨fun m hm => ?_, fun m hm => ?_⟩)
  · by_cases hmn : m = n
    · subst hmn
      simpa using hactive hm
    · exact .inl (by simpa [hmn] using hm)
  · by_cases hmn : m = n
    · subst hmn
      simpa [hquota] using hm
    · simpa [hmn] using hm

end

/-! ### Grant pass, retirement and follow-ups -/

section
variable {s t : State} {w : WindowId} {r : RecordId}

theorem grantPass_changes (h : ClaimsLawful s) (w : WindowId) : Changes s (s.grantPass w) :=
  (grantPass_steps h.waitLists w).lift id fun _ _ => Change.pass

theorem Changes.grantPass (k : Changes s t) (h : ClaimsLawful s) (w : WindowId) : Changes s (t.grantPass w) :=
  k.trans (grantPass_changes (h.changes k) w)

theorem foldl_changes {α : Type} {f : State → α → State} (hf : ∀ {s} a, ClaimsLawful s → Changes s (f s a)) :
    ∀ (l : List α) (s : State), ClaimsLawful s → Changes s (l.foldl f s)
  | [], _, _ => .refl
  | a :: l, _, h => (hf a h).trans (foldl_changes hf l _ (h.changes (hf a h)))

/-- Retirements on one window, with their follow-ups; without the flag, no hold was retired (R35). -/
theorem followUps_changes (h : ClaimsLawful s) (k : Thinned w s t) {held : Bool}
    (hh : held = false → ∀ r, s.isHoldOn w r = true → t.isHoldOn w r = true) (x : Option SlotId) :
    Changes s (t.followUps w held x) := by
  cases held with
  | true => exact .single (.endHolds k x)
  | false =>
    have heq : t.followUps w false x = t.grantPass w := by simp [State.followUps]
    rw [heq]
    exact Changes.grantPass (.single (.thin k (hh rfl))) h w

/-- The holds stay where a waiting claim is retired. -/
theorem isHoldOn_retire (hr : (s.record r).phase.isHold = false) (q : RecordId) (hq : s.isHoldOn w q = true) :
    (s.retire r).isHoldOn w q = true := by
  have hqr : q ≠ r := fun he => by simp [isHoldOn_iff, he, hr] at hq
  simpa [State.isHoldOn, hqr] using hq

theorem retireAlone_changes (h : ClaimsLawful s) (hr : (s.record r).phase ≠ .free) (x : Option SlotId) :
    Changes s (s.retireAlone r x) :=
  followUps_changes h (retire_thinned h.waitLists hr rfl) (fun hh q hq => isHoldOn_retire hh q hq) x

/-! ### Exit processing (R36, R135) -/

theorem exitWindow_changes (n : SlotId) (h : ClaimsLawful s) (w : WindowId) : Changes s (s.exitWindow n w) := by
  unfold State.exitWindow
  split
  · exact .refl
  · next r hr => exact retireAlone_changes h (recordOf_some hr).1 _

theorem exitRecords_changes (h : ClaimsLawful s) (n : SlotId) : Changes s (s.exitRecords n) :=
  foldl_changes (fun w h => exitWindow_changes n h w) _ s h

theorem recordOf_none {n : SlotId} :
    s.recordOf n w = none ↔
      ∀ r, (s.record r).phase ≠ .free → ¬((s.record r).slot = n ∧ (s.record r).window = w) := by
  simp [State.recordOf, List.find?_eq_none, mem_allRecords]

/-- A visit leaves every record in use for its slot and window, and none of the exiting slot on the window (R36). -/
theorem exitWindow_usedFrom (h : ClaimsLawful s) (n : SlotId) (w : WindowId) :
    UsedFrom s (s.exitWindow n w) ∧ (s.exitWindow n w).recordOf n w = none := by
  unfold State.exitWindow
  split
  · next hno => exact ⟨.of_records fun _ => rfl, hno⟩
  · next r hr =>
    obtain ⟨hf, hslot, hwindow⟩ := recordOf_some hr
    have hthin := retire_thinned h.waitLists hf rfl
    have hused := ((h.retire hf).followUps_usedFrom (s.record r).window (s.record r).phase.isHold (some n)).2
    refine ⟨hthin.usedFrom.trans hused, recordOf_none.mpr fun q hq ⟨hqn, hqw⟩ => ?_⟩
    obtain ⟨hq', hqs, hqw'⟩ := hused q hq
    have hqr : q ≠ r := fun he => hq' (by simp [he])
    simp only [record_retire, if_neg hqr] at hq' hqs hqw'
    exact h.oneEach q r hqr hq' hf ⟨hqs.symm.trans (hqn.trans hslot.symm), hqw'.symm.trans (hqw.trans hwindow.symm)⟩

/-- After the visits to some windows the exiting slot has no record on them. -/
theorem foldl_exitWindow_unused (n : SlotId) : ∀ (l : List WindowId) (s : State), ClaimsLawful s →
    UsedFrom s (l.foldl (fun s w => s.exitWindow n w) s) ∧
      ∀ w ∈ l, (l.foldl (fun s w => s.exitWindow n w) s).recordOf n w = none
  | [], s, _ => ⟨.of_records fun _ => rfl, by simp⟩
  | v :: l, s, h => by
    obtain ⟨hone, hnone⟩ := exitWindow_usedFrom h n v
    obtain ⟨hused, hrest⟩ := foldl_exitWindow_unused n l (s.exitWindow n v) (h.changes (exitWindow_changes n h v))
    refine ⟨hone.trans hused, List.forall_mem_cons.mpr ⟨recordOf_none.mpr fun q hq hqv => ?_, hrest⟩⟩
    obtain ⟨hq', hqs, hqw⟩ := hused q hq
    exact recordOf_none.mp hnone q hq' (by rw [← hqs, ← hqw]; exact hqv)

theorem recordOf_exitRecords (h : ClaimsLawful s) (n : SlotId) (w : WindowId) :
    (s.exitRecords n).recordOf n w = none := by
  unfold State.exitRecords
  exact (foldl_exitWindow_unused n allWindows s h).2 w (mem_allWindows w)

/-- No record in use names the slot whose records have been retired (R36). -/
theorem exitRecords_unused (h : ClaimsLawful s) (n : SlotId) (r : RecordId)
    (hr : ((s.exitRecords n).record r).phase ≠ .free) : ((s.exitRecords n).record r).slot ≠ n := fun hslot =>
  recordOf_none.mp (recordOf_exitRecords h n ((s.exitRecords n).record r).window) r hr (And.intro hslot rfl)

/-- A slot that is not ACTIVE, or has no record in use, may leave the ACTIVE slots. -/
theorem leaveActive_changes {n : SlotId} (reason : ExitReason)
    (h : (s.slot n).state = .active → ∀ r, (s.record r).phase ≠ .free → (s.record r).slot ≠ n) :
    Changes s (s.leaveActive n reason) := setSlot_changes (by rfl) fun ha => .inr (h ha)

/-- Exit processing: the slot's records are retired, and it is no longer ACTIVE (R135). -/
theorem exit_changes (h : ClaimsLawful s) (n : SlotId) (reason : ExitReason) : Changes s (s.exit n reason) := by
  have h1 : Changes s ((s.exitRecords n).leaveActive n reason) :=
    (exitRecords_changes h n).trans (leaveActive_changes reason fun _ => exitRecords_unused h n)
  have h3 := h1.still (exitPort_still _ n reason)
  unfold State.exit
  extract_lets s3 s4
  have h4 : Changes s s4 := by
    unfold s4
    split
    · exact h3
    · exact h3.still (postToMaster_still ..)
  exact h4.still (exitRole_still ..)

/-! ### The ticks (R83, R134) -/

/-- The holds of a window stay where none of them ends on a tick. -/
theorem countedOut_holds (h : WaitListsLawful s) (hno : ¬∃ r ∈ s.runningOut w, (s.record r).holdEnds) (r : RecordId)
    (hr : s.isHoldOn w r = true) : (s.countedOut w).isHoldOn w r = true := by
  obtain ⟨hh, hw⟩ := isHoldOn_iff.mp hr
  have hf := ClaimPhase.ne_free_of_isHold hh
  rw [isHoldOn_iff, record_countedOut h, if_neg (by simp [hf, hw])]
  split
  · next h1 =>
    have hheld : (s.record r).phase = .held := by
      by_contra hne
      exact hno ⟨r, mem_runningOut.mpr ⟨hf, hw, h1⟩, hh, hne⟩
    simp [hheld, hw]
  · exact ⟨hh, hw⟩

theorem tickWindow_changes (h : ClaimsLawful s) (w : WindowId) : Changes s (s.tickWindow w) := by
  have hthin := countedOut_thinned h.waitLists w
  rw [tickWindow_eq]
  split
  · exact followUps_changes h hthin (fun hno => countedOut_holds h.waitLists (of_decide_eq_false hno)) none
  · next hno =>
    exact .single (.thin hthin (countedOut_holds h.waitLists fun ⟨r, hr, he⟩ => hno ⟨r, hr, he.2⟩))

/-- A HELD record whose lease runs out stays in use (R85). -/
theorem expire_held_thinned (h : WaitListsLawful s) (hr : (s.record r).phase = .held) :
    Thinned (s.record r).window s (s.expire r) := by
  have hf : (s.record r).phase ≠ .free := by simp [hr]
  have hrun : ∀ q, (s.record q).RunsOn (s.window (s.record q).window).grace ((s.expire r).record q) := fun q => by
    rw [record_expire hf]
    split
    · next hq =>
      subst hq
      exact ⟨.lapsing, _, by rw [ClaimRecord.expired, if_pos hr], .inr ⟨hr, rfl, rfl⟩⟩
    · exact .refl _ _
  have hclaim : ∀ v, (s.expire r).claim v = s.claim v := fun v => by simp [claim_expire hf, hr]
  refine ⟨(expire_beside s r).slots, expire_windows s r, fun v _ => hclaim v, fun q => .inr (hrun q), ?_,
    fun u hu => ⟨by rw [← hclaim, hu], fun q hq _ => ?_⟩, ?_⟩
  · rw [hclaim]
    refine (List.filter_eq_self.mpr fun q hq => ?_).symm
    have hp := (((h _).2 q).mp hq).1
    simp [(hrun q).free_iff, hp]
  · rw [ne_eq, (hrun q).free_iff]
    exact ClaimPhase.ne_free_of_isHold (isHoldOn_iff.mp hq).1
  · rw [hclaim, if_neg]
    rintro ⟨q, hp, -, -, hq⟩
    rw [(hrun q).free_iff, hp] at hq
    cases hq

theorem lastTick_changes (h : ClaimsLawful s) (r : RecordId) {phase : ClaimPhase} (hphase : phase ≠ .free) :
    Changes s (s.lastTick r phase) := by
  unfold State.lastTick
  extract_lets c
  split
  · next hlast =>
    obtain ⟨-, rfl, -⟩ := hlast
    split
    · next hheld =>
      have hthin := expire_held_thinned h.waitLists hheld
      refine .single (.thin hthin fun q hq => ?_)
      obtain ⟨hh, hw⟩ := isHoldOn_iff.mp hq
      rw [isHoldOn_iff, record_expire hphase]
      split
      · next hqr =>
        subst hqr
        simp [c, ClaimRecord.expired, hheld]
      · exact ⟨hh, hw⟩
    · next hheld =>
      have hpost := post_still (s.retire r) (s.record r).slot (.window (s.record r).window)
        ((s.record r).expiryBody (s.window (s.record r).window).grace)
      have hthin := (retire_thinned h.waitLists hphase rfl).congr hpost.tables (post_beside ..).slots
      rw [expire_retired hphase hheld]
      refine followUps_changes h hthin (fun hno q hq => ?_) none
      simpa [State.isHoldOn] using isHoldOn_retire hno q hq
  · exact .refl

theorem tickSlot_changes (h : ClaimsLawful s) (n : SlotId) : Changes s (s.tickSlot n) := by
  unfold State.tickSlot
  split
  · split
    · exact exit_changes h n .silent
    · exact .of_still (.setSlot rfl rfl)
  · exact .refl

theorem tickSlots_changes (h : ClaimsLawful s) : Changes s s.tickSlots := by
  unfold State.tickSlots
  split
  · exact .refl
  · exact foldl_changes (fun n h => tickSlot_changes h n) _ s h

theorem lastSilence_changes (h : ClaimsLawful s) (n : SlotId) : Changes s (s.lastSilence n) := by
  unfold State.lastSilence
  split
  · exact exit_changes h n .silent
  · exact .refl

/-! ### The lines -/

theorem rise_changes (s : State) (n : SlotId) : Changes s (s.rise n) := by
  unfold State.rise
  split
  · next ha =>
    exact (setSlot_changes (by rfl) fun h => absurd (ha.symm.trans h) (by decide)).still (reportSlotChange_still ..)
  · exact .refl

theorem fall_changes (h : ClaimsLawful s) (n : SlotId) : Changes s (s.fall n) := by
  unfold State.fall
  split
  · exact exit_changes h n .removed
  · next hn =>
    have hleave : Changes s (s.leaveActive n .removed) := leaveActive_changes .removed (by simp [hn])
    exact (hleave.still (clearPort_still _ n)).still (reportSlotChange_still ..)
  · exact .refl

theorem slotReset_changes (h : ClaimsLawful s) (n : SlotId) : Changes s (s.slotReset n) := by
  unfold State.slotReset
  split
  · exact exit_changes h n .reset
  · next hn =>
    have hleave : Changes s (s.leaveActive n .reset) := leaveActive_changes .reset (by simp [hn])
    exact (hleave.still (clearPortAndParams_still _ n)).still (reportSlotChange_still ..)
  · exact .refl

theorem backplaneReset_changes (s : State) : Changes s s.backplaneReset :=
  .single (.reset (record_backplaneReset s) (claim_backplaneReset s) fun w => by
    rw [window_backplaneReset]
    exact closedByReset_kept _)

/-! ### Cycles -/

theorem carryOut_changes (s : State) (n : SlotId) (addr : Word) (kind : AccessKind) (v : Verdict) :
    Changes s (s.carryOut n addr kind v) := by
  cases v with
  | passHolder w r =>
    have h1 : Changes s (s.renewByAccess w r) := by
      unfold State.renewByAccess
      split
      · next hr =>
        obtain ⟨hh, hk⟩ := ClaimPhase.isRenewable_iff.mp hr.2
        exact .single (.restart hh hk (.inl rfl) (.inl rfl))
      · exact .refl
    exact h1.still (.of_slots ⟨rfl, rfl, rfl⟩ rfl)
  | passForeign w => exact .of_still (.of_slots ⟨rfl, rfl, rfl⟩ rfl)
  | refuse cause => exact (Changes.of_still (post_still ..)).still (.of_slots ⟨rfl, rfl, rfl⟩ rfl)
  | holdOff => exact .of_still (.of_slots ⟨rfl, rfl, rfl⟩ rfl)

end

end Sys2Proof.Machine
end

section
/-! SUPPORT. Every command is a sequence of changes, and so is every step. -/

namespace Sys2Proof.Machine

/-- A hold command keeps a property if its effect on the caller's hold does. -/
theorem onHold_keeps_of {P : State → Prop} {s : State} {c : SlotId} {w : WindowId} {effect : RecordId → State × Reply}
    (hs : P s) (he : ∀ r, s.holdOf c w = some r → P (effect r).1) : P (s.onHold c w effect).1 := by
  unfold State.onHold
  split
  · exact hs
  · next r hr => exact he r hr

/-! ### What the checks give (R40, R62, R94) -/

section
variable {s : State} {c : SlotId} {e : CommandEntry} {w : WindowId} {r : RecordId}

/-- A slot with neither a hold nor a waiting claim on a window has no record there (R30). -/
theorem apart_of_none (hhold : s.holdOf c w = none) (hwait : s.waitingOf c w = none) (q : RecordId)
    (hq : (s.record q).phase ≠ .free) : ¬((s.record q).slot = c ∧ (s.record q).window = w) := by
  rintro ⟨hslot, hwindow⟩
  by_cases hp : (s.record q).phase = .waiting
  · have := waitingOf_none.mp hwait q
    simp [State.isWaitingOf, hp, hslot, hwindow] at this
  · exact holdOf_none.mp hhold q (isHoldOn_iff.mpr ⟨ClaimPhase.isHold_of_used hq hp, hwindow⟩) hslot

theorem checkActive_eq_false : (s.checkActive c).1 = false ↔ (s.slot c).state = .active := by
  simp [State.checkActive]

/-- CLAIM's checks let a record be taken for the caller (R40). -/
theorem claimable_of_claimChecks {m : Mode} (ha : (s.slot c).state = .active)
    (hpass : ∀ p ∈ claimChecks c e m s, p.1 = false) (hr : s.lowestFree = some r) :
    Claimable s c (windowField e.param0) r := by
  simp only [claimChecks, List.forall_mem_cons, decide_eq_false_iff_not, not_not, Option.isSome_eq_false_iff,
    Option.isNone_iff_eq_none] at hpass
  obtain ⟨-, hopen, -, hhold, hwait, -, hquota, -⟩ := hpass
  exact ⟨lowestFree_some hr, hopen, ha, apart_of_none hhold hwait, by simpa [State.quotaReached] using hquota⟩

/-- The hold commands that refuse a RECALLED hold act on one that is not (R62). -/
theorem not_recalled_of_check (hr : s.holdOf c (windowField e.param0) = some r)
    (h : (s.checkNotRecalled c e).1 = false) : (s.record r).phase ≠ .recalled := by
  simpa [State.checkNotRecalled, State.holdPhase, hr] using h

theorem mode_of_holdMode {m : Mode} (hr : s.holdOf c w = some r) (h : s.holdMode c w = some m) :
    (s.record r).mode = m := by
  simpa [State.holdMode, hr] using h

/-- A beneficiary may be placed: it has a waiting claim on the window, or a record may be taken for it (R94). -/
structure MayPlace (s : State) (w : WindowId) (b : SlotId) : Prop where
  opened : (s.window w).state = .opened
  active : (s.slot b).state = .active
  noHold : ∀ r, s.isHoldOn w r = true → (s.record r).slot ≠ b
  room : (∃ r, s.isWaitingOf b w r = true) ∨ s.inUse b < (s.slot b).quota ∧ ∃ r, (s.record r).phase = .free

/-- RECALL's checks let its beneficiary be placed (R94 steps 8 to 11). -/
theorem mayPlace_of_checks {b : SlotId} (hopen : (s.window (windowField e.param0)).state = .opened)
    (hb : e.beneficiary = some b) (hpass : ∀ p ∈ beneficiaryChecks e s, p.1 = false) :
    MayPlace s (windowField e.param0) b := by
  simp only [beneficiaryChecks, hb, List.forall_mem_cons, decide_eq_false_iff_not, not_not,
    Option.isSome_eq_false_iff, Option.isNone_iff_eq_none, Bool.and_eq_false_iff, Option.isNone_eq_false_iff] at hpass
  obtain ⟨hactive, hhold, hquota, hfree, -⟩ := hpass
  refine ⟨hopen, hactive, holdOf_none.mp hhold, ?_⟩
  by_cases hwait : ∃ r, s.isWaitingOf b (windowField e.param0) r = true
  · exact .inl hwait
  · have hno : s.waitingOf b (windowField e.param0) = none :=
      waitingOf_none.mpr fun r => by simpa using fun hr => hwait ⟨r, hr⟩
    rw [hno] at hquota hfree
    refine .inr ⟨by simpa [State.quotaReached] using hquota, ?_⟩
    obtain ⟨r, hr⟩ := Option.isSome_iff_exists.mp (hfree.resolve_left (by simp))
    exact ⟨r, lowestFree_some hr⟩

/-- The beneficiary is placed, at the head of its window's wait list (R96). -/
theorem placeBeneficiary_placed {b : SlotId} (h : MayPlace s w b) : Placed w b s (s.placeBeneficiary w b).1 := by
  unfold State.placeBeneficiary
  split
  · next r hr => exact .moved hr
  · next hno =>
    obtain ⟨hroom, q, hq⟩ := h.room.resolve_left fun ⟨r, hr⟩ => by simp [waitingOf_none.mp hno r] at hr
    split
    · next hfull => exact absurd hq (lowestFree_none.mp hfull q)
    · next r hr =>
      exact .inserted ⟨lowestFree_some hr, h.opened, h.active,
        apart_of_none (holdOf_none.mpr h.noHold) hno, hroom⟩

/-- The recall of the holds leaves the beneficiary's place as it is. -/
theorem MayPlace.markRecall {b : SlotId} (h : MayPlace s w b) (x : Option SlotId) :
    MayPlace (s.markRecall w x) w b := by
  have hphase : ∀ r, s.isHoldOn w r = false → (s.markRecall w x).record r = s.record r := fun r hr => by simp [hr]
  have hslot : ∀ r, ((s.markRecall w x).record r).slot = (s.record r).slot := fun r => by
    by_cases hr : s.isHoldOn w r = true <;> simp [hr]
  refine ⟨by simpa using h.opened, by simpa using h.active, fun r hr => ?_, ?_⟩
  · rw [hslot]
    refine h.noHold r ?_
    by_contra hno
    simp only [Bool.not_eq_true] at hno
    simp only [State.isHoldOn, hphase r hno] at hr hno
    simp [hr] at hno
  · obtain ⟨r, hr⟩ | ⟨hroom, r, hr⟩ := h.room
    · have hno : s.isHoldOn w r = false := by
        simp only [State.isWaitingOf, Bool.and_eq_true, decide_eq_true_eq] at hr
        simp [State.isHoldOn, hr.1.1]
      exact .inl ⟨r, by simpa [State.isWaitingOf, hphase r hno] using hr⟩
    · have hno : s.isHoldOn w r = false := by simp [State.isHoldOn, hr]
      refine .inr ⟨?_, r, by rw [hphase r hno, hr]⟩
      rw [slot_markRecall]
      exact lt_of_le_of_lt ((UsedFrom.of_recall (record_markRecall s w x)).inUse_le b) hroom

end

/-! ### The commands of the slots -/

section
variable {s : State} (c : SlotId) (e : CommandEntry)

theorem joinCommand_changes : Changes s (joinCommand c e s).1 :=
  answer_keeps (P := Changes s) .refl fun _ =>
    (setSlot_changes (by rfl) fun _ => .inl rfl).still (reportSlotChange_still ..)

theorem leaveCommand_changes (h : ClaimsLawful s) : Changes s (leaveCommand c e s).1 := by
  refine answer_keeps (P := Changes s) .refl fun _ => ?_
  dsimp only
  exact exit_changes h c .left

theorem takeMasterCommand_changes : Changes s (takeMasterCommand c e s).1 := by
  refine answer_keeps (P := Changes s) .refl fun _ => ?_
  have h1 : Changes s (s.setMaster (some c)) := .of_still (.of_slots ⟨rfl, rfl, rfl⟩ rfl)
  exact h1.still (post_still ..)

theorem evictCommand_changes (h : ClaimsLawful s) : Changes s (evictCommand c e s).1 := by
  refine answer_keeps (P := Changes s) .refl fun _ => ?_
  dsimp only
  exact exit_changes h (slotField e.param0) .evicted

/-- SET_QUOTA is refused where the records in use exceed the new quota (R138). -/
theorem setQuotaCommand_changes : Changes s (setQuotaCommand c e s).1 := by
  refine answer_keeps (P := Changes s) .refl fun hpass => ?_
  have huse := hpass (decide ((lowByte e.param1).toNat < s.inUse (slotField e.param0)), .quotaBelowUse) (by simp)
  simp only [decide_eq_false_iff_not, not_lt] at huse
  refine .single (.quiet ⟨rfl, rfl, rfl⟩ ⟨fun n hn => .inl ?_, fun n hn => ?_⟩)
  · by_cases h : n = slotField e.param0
    · subst h
      simpa using hn
    · simpa [h] using hn
  · by_cases h : n = slotField e.param0
    · subst h
      simpa using huse
    · simpa [h] using hn

theorem setEligibleCommand_changes : Changes s (setEligibleCommand c e s).1 :=
  answer_keeps (P := Changes s) .refl fun _ => .of_still (.of_slots ⟨rfl, rfl, rfl⟩ rfl)

theorem reloadAllSilence_still (s : State) : Still s s.reloadAllSilence := by
  unfold State.reloadAllSilence
  exact .foldl reloadSilence_still _ s

theorem setTimingCommand_changes : Changes s (setTimingCommand c e s).1 := by
  refine answer_keeps (P := Changes s) .refl fun _ => ?_
  dsimp only
  have h1 : Changes s { s with silenceLimit := e.silenceField } := .of_still (.of_slots ⟨rfl, rfl, rfl⟩ rfl)
  exact (h1.still (reloadAllSilence_still _)).still (selectTick_still ..)

theorem handMasterCommand_changes : Changes s (handMasterCommand c e s).1 := by
  refine answer_keeps (P := Changes s) .refl fun _ => ?_
  have h1 : Changes s (s.setMaster (some (slotField e.param0))) := .of_still (.of_slots ⟨rfl, rfl, rfl⟩ rfl)
  exact (h1.still (post_still ..)).still (post_still ..)

theorem queryWindowCommand_changes : Changes s (queryWindowCommand c e s).1 :=
  answer_keeps (P := Changes s) .refl fun _ => .refl

theorem querySlotCommand_changes : Changes s (querySlotCommand c e s).1 :=
  answer_keeps (P := Changes s) .refl fun _ => .refl

/-! ### The commands on claims and holds -/

theorem claimCommand_changes (h : ClaimsLawful s) : Changes s (claimCommand c e s).1 := by
  refine answer_keeps (P := Changes s) .refl fun hcommon => ?_
  have ha : (s.slot c).state = .active := checkActive_eq_false.mp (hcommon _ (by simp))
  split
  · exact .refl
  · next m hm =>
    refine answer_keeps (P := Changes s) .refl fun hpass => ?_
    split
    · exact .refl
    · next r hr =>
      have hclaimable := claimable_of_claimChecks ha hpass hr
      unfold claimEffect
      extract_lets w s1
      split
      · next honce => exact Changes.grantPass (.single (.takeHold e.tag hclaimable honce)) h w
      · exact Changes.grantPass (.single (.enqueue m e.tag e.waitLimit hclaimable)) h w

theorem withdrawCommand_changes (h : ClaimsLawful s) : Changes s (withdrawCommand c e s).1 := by
  refine answer_keeps (P := Changes s) .refl fun _ => ?_
  unfold withdrawEffect
  split
  · next r hr =>
    have hf : (s.record r).phase ≠ .free := by simp [(waitingOf_some hr).1]
    exact retireAlone_changes h hf none
  · exact Changes.grantPass (.single (.setUpgrader none (by simp))) h _

theorem releaseCommand_changes (h : ClaimsLawful s) : Changes s (releaseCommand c e s).1 := by
  refine answer_keeps (P := Changes s) .refl fun _ => onHold_keeps_of .refl fun r hr => ?_
  exact retireAlone_changes h (ClaimPhase.ne_free_of_isHold (holdOf_some hr).1) none

theorem renewCommand_changes : Changes s (renewCommand c e s).1 := by
  refine answer_keeps (P := Changes s) .refl fun hpass => onHold_keeps_of .refl fun r hr => ?_
  have hkept := not_recalled_of_check hr (hpass _ (by simp))
  exact .single (.restart (holdOf_some hr).1 hkept (.inl rfl) (.inl rfl))

/-- An upgrade that the grant pass of the command itself completes is that completion alone. -/
theorem completeUpgrade_restartHold {s : State} {w : WindowId} {r : RecordId} :
    Still (s.completeUpgrade w r) ((s.restartHold r .exclusive).completeUpgrade w r) := by
  have hsame : SameTables (s.completeUpgrade w r) ((s.restartHold r .exclusive).completeUpgrade w r) := by
    refine ⟨?_, State.records_ext _ _ fun q => ?_, State.claims_ext _ _ fun v => by simp⟩
    · rw [completeUpgrade_windows, completeUpgrade_windows]
      rfl
    · by_cases hq : q = r <;> simp [hq]
  refine .of_slots hsame ?_
  rw [(completeUpgrade_beside ..).slots, (completeUpgrade_beside ..).slots]
  rfl

theorem upgradeCommand_changes (h : ClaimsLawful s) : Changes s (upgradeCommand c e s).1 := by
  refine answer_keeps (P := Changes s) .refl fun hpass => onHold_keeps_of .refl fun r hr => ?_
  obtain ⟨hh, hw, hslot⟩ := holdOf_some hr
  have hkept := not_recalled_of_check hr (hpass _ (by simp))
  have hmode := hpass (decide (s.holdMode c (windowField e.param0) ≠ some .shared), .notShared) (by simp)
  simp only [decide_eq_false_iff_not, not_not] at hmode
  unfold upgradeEffect
  extract_lets y
  split
  · next halone =>
    by_cases hpend : (s.window (windowField e.param0)).state = .opened ∧
        (s.claim (windowField e.param0)).marker = .idle ∧ (s.claim (windowField e.param0)).upgrader = some c
    · obtain ⟨hopen, hidle, hup⟩ := hpend
      have hholders : (s.restartHold r .exclusive).holders (windowField e.param0) = [r] := by
        rw [← halone]
        refine List.filter_congr fun q _ => ?_
        by_cases hq : q = r <;> simp [State.isHoldOn, hq, hh]
      have heq : (s.restartHold r .exclusive).grantPass (windowField e.param0) =
          (s.restartHold r .exclusive).completeUpgrade (windowField e.param0) r := by
        simp [State.grantPass, State.grantSteps, hopen, hidle, hup, hholders, hslot]
      dsimp only
      rw [heq]
      exact Changes.still (.single (.pass (.completeUpgrade hopen hidle halone (hup.trans (by rw [hslot])))))
        completeUpgrade_restartHold
    · exact Changes.grantPass (.single (.restart hh hkept (.inr (.inr (hw ▸ halone)))
        (.inr (.inr (by rw [hw, hslot]; exact hpend))))) h _
  · split
    · exact .refl
    · refine Changes.grantPass (.single (.setUpgrader (some c) fun d hd => ?_)) h _
      obtain rfl := Option.some.inj hd
      exact ⟨r, hr, mode_of_holdMode hr hmode, hkept⟩

theorem downgradeCommand_changes (h : ClaimsLawful s) : Changes s (downgradeCommand c e s).1 := by
  refine answer_keeps (P := Changes s) .refl fun hpass => onHold_keeps_of .refl fun r hr => ?_
  have hkept := not_recalled_of_check hr (hpass _ (by simp))
  exact Changes.grantPass (.single (.restart (holdOf_some hr).1 hkept (.inr (.inl rfl)) (.inr (.inl rfl)))) h _

theorem transferCommand_changes : Changes s (transferCommand c e s).1 := by
  refine answer_keeps (P := Changes s) .refl fun hpass => onHold_keeps_of .refl fun r hr => ?_
  obtain ⟨hh, hw, -⟩ := holdOf_some hr
  have hidle := hpass (decide ((s.claim (windowField e.param0)).marker ≠ .idle), .recallPending) (by simp)
  have hmode := hpass (decide (s.holdMode c (windowField e.param0) ≠ some .exclusive), .notExclusive) (by simp)
  simp only [decide_eq_false_iff_not, not_not] at hidle hmode
  unfold transferEffect
  split
  · exact .refl
  · next q hq =>
    have hwait : s.waitingOf (slotField e.param1) (windowField e.param0) = some q := by
      unfold State.exclusiveWaiter at hq
      split at hq
      · cases hq
      · next p hp =>
        split at hq
        · cases hq
          exact hp
        · cases hq
    obtain ⟨hphase, -, hqw⟩ := waitingOf_some hwait
    exact .single (.transfer hidle (isHoldOn_iff.mpr ⟨hh, hw⟩) (mode_of_holdMode hr hmode) hphase hqw)

/-! ### The commands of the master on windows -/

theorem defineCommand_changes : Changes s (defineCommand c e s).1 := by
  refine answer_keeps (P := Changes s) .refl fun _ => ?_
  split
  · exact .refl
  · next d hd =>
    refine answer_keeps (P := Changes s) .refl fun hpass => ?_
    have hbusy := hpass (s.checkNotBusy _) List.mem_cons_self
    simp only [State.checkNotBusy, Bool.or_eq_false_iff, decide_eq_false_iff_not] at hbusy
    exact .single (.redefine (.inl hbusy) (.inl (definition_lawful hd)))

theorem undefineCommand_changes : Changes s (undefineCommand c e s).1 := by
  refine answer_keeps (P := Changes s) .refl fun hpass => ?_
  have hbusy := hpass (s.checkNotBusy (windowField e.param0)) (by simp)
  simp only [State.checkNotBusy, Bool.or_eq_false_iff, decide_eq_false_iff_not] at hbusy
  exact .single (.redefine (.inl hbusy) (.inl WindowRecord.cleared_lawful))

theorem openCommand_changes (h : ClaimsLawful s) : Changes s (openCommand c e s).1 := by
  refine answer_keeps (P := Changes s) .refl fun _ => ?_
  show Changes s (s.openEffect _)
  unfold State.openEffect
  split
  · next hc =>
    refine Changes.grantPass (.single (.redefine (.inl (by simp [hc])) (.inr ?_))) h _
    exact .of_state (by simp [hc]) (by decide)
  · exact .refl

/-- CLOSE withdraws waiting claims one by one (R102 step 1). -/
theorem foldl_withdrawForClose_changes {w : WindowId} : ∀ (l : List RecordId) (s : State), ClaimsLawful s → l.Nodup →
    (∀ r ∈ l, (s.record r).phase = .waiting) → Changes s (l.foldl (State.withdrawForClose w) s)
  | [], _, _, _, _ => .refl
  | r :: l, s, h, hnodup, hwait => by
    obtain ⟨hr, hl⟩ := List.nodup_cons.mp hnodup
    obtain ⟨hphase, hwait⟩ := List.forall_mem_cons.mp hwait
    have hf : (s.record r).phase ≠ .free := by simp [hphase]
    have hretire : Changes s (s.retire r) := .single (.thin (retire_thinned h.waitLists hf rfl)
      fun q hq => isHoldOn_retire (by simp [hphase]) q hq)
    have hone : Changes s (State.withdrawForClose w s r) := hretire.still (post_still ..)
    refine hone.trans (foldl_withdrawForClose_changes l _ (h.changes hone) hl fun q hq => ?_)
    have hqr : q ≠ r := fun he => hr (he ▸ hq)
    simpa [State.withdrawForClose, hqr] using hwait q hq

/-- CLOSE of an OPEN window (R102, R103). -/
theorem closeOpen_changes (h : ClaimsLawful s) {w : WindowId} (hopen : (s.window w).state = .opened) :
    Changes s (s.closeOpen w) := by
  obtain ⟨hnodup, hmem⟩ := h.waitLists w
  have h1 : Changes s (s.withoutWaiters w) :=
    (foldl_withdrawForClose_changes _ s h hnodup fun r hr => ((hmem r).mp hr).1).tail (.setUpgrader none (by simp))
  have hopen' : ((s.withoutWaiters w).window w).state = .opened := by rwa [window_withoutWaiters h.waitLists]
  by_cases hheld : (s.withoutWaiters w).holders w = []
  · have heq : s.closeOpen w =
        ((s.withoutWaiters w).setWindowState w .closed).postToMaster none (.window w) .windowClosed := if_pos hheld
    rw [heq]
    have hclosed : Changes (s.withoutWaiters w) ((s.withoutWaiters w).setWindowState w .closed) := by
      refine .single (.redefine (.inr fun r hr hw => ?_) (.inr (.of_state (by simp [hopen']) (by decide))))
      by_cases hp : ((s.withoutWaiters w).record r).phase = .waiting
      · have hin := (((h.changes h1).waitLists w).2 r).mpr ⟨hp, hw⟩
        simp [(withoutWaiters_withdrawn h.waitLists).waitList] at hin
      · have := holders_eq_nil.mp hheld r
        simp [State.isHoldOn, ClaimPhase.isHold_of_used hr hp, hw] at this
    exact Changes.still (h1.trans hclosed) (postToMaster_still ..)
  · rw [closeOpen_of_holders hheld]
    exact h1.tail (.drain _ hopen' (withoutWaiters_withdrawn h.waitLists).waitList withoutWaiters_upgrader)

theorem closeCommand_changes (h : ClaimsLawful s) : Changes s (closeCommand c e s).1 := by
  refine answer_keeps (P := Changes s) .refl fun _ => ?_
  show Changes s (s.closeEffect _)
  unfold State.closeEffect
  split
  · next hopen => exact closeOpen_changes h hopen
  · exact .refl

theorem recallCommand_changes (h : ClaimsLawful s) : Changes s (recallCommand c e s).1 := by
  refine answer_keeps (P := Changes s) .refl fun hpass => ?_
  have hopen := hpass (decide ((s.window (windowField e.param0)).state ≠ .opened), .windowClosed) (by simp)
  have hidle := hpass (decide ((s.claim (windowField e.param0)).marker ≠ .idle), .recallPending) (by simp)
  simp only [decide_eq_false_iff_not, not_not] at hopen hidle
  have hplace : ∀ b, e.beneficiary = some b → MayPlace s (windowField e.param0) b := fun b hb =>
    mayPlace_of_checks hopen hb fun p hp => hpass p (List.mem_append_right _ hp)
  unfold recallEffect
  split
  · next hno =>
    cases hb : e.beneficiary with
    | none => exact grantPass_changes h _
    | some b => exact .single (.recallUnheld hopen hidle hno (placeBeneficiary_placed (hplace b hb)))
  · next hheld =>
    cases hb : e.beneficiary with
    | none => exact .single (.recallHeld hopen hidle hheld)
    | some b =>
      exact .single (.recallFor hopen hidle hheld (placeBeneficiary_placed ((hplace b hb).markRecall (some b))))

end

/-! ### The step -/

/-- The take of a command is a sequence of changes if the command is. -/
theorem takeWhere_changes {s : State} (h : ClaimsLawful s) (isOpcode : BitVec 8 → Bool)
    {f : SlotId → CommandEntry → State → State × Reply}
    (hf : ∀ {s} c e, ClaimsLawful s → Changes s (f c e s).1) : Changes s (s.takeWhere isOpcode f) := by
  unfold State.takeWhere
  repeat' split
  · exact .refl
  · exact .refl
  · next c e _ _ =>
    have hpop : Changes s (s.popCommand c) := .of_still (.of_slots ⟨rfl, rfl, rfl⟩ rfl)
    exact Changes.still (hpop.trans (hf c e (h.changes hpop))) (.of_slots ⟨rfl, rfl, rfl⟩ rfl)
  · exact .refl

/-- Each row of the table is a sequence of changes. -/
theorem exec_changes {s t : State} (h : ClaimsLawful s) (i : Instr) (e : exec i s = .next t) : Changes s t := by
  have port : ∀ (n : SlotId) {access : State → State}, (∀ s, Still s (access s)) → Changes s (s.portCycle n access) :=
    fun n _ ha => .of_still (portCycle_still s n ha)
  cases i with
  | join => exact of_next e (takeWhere_changes h _ fun c e _ => joinCommand_changes c e)
  | leave => exact of_next e (takeWhere_changes h _ leaveCommand_changes)
  | claim => exact of_next e (takeWhere_changes h _ claimCommand_changes)
  | withdraw => exact of_next e (takeWhere_changes h _ withdrawCommand_changes)
  | release => exact of_next e (takeWhere_changes h _ releaseCommand_changes)
  | renew => exact of_next e (takeWhere_changes h _ fun c e _ => renewCommand_changes c e)
  | upgrade => exact of_next e (takeWhere_changes h _ upgradeCommand_changes)
  | downgrade => exact of_next e (takeWhere_changes h _ downgradeCommand_changes)
  | transfer => exact of_next e (takeWhere_changes h _ fun c e _ => transferCommand_changes c e)
  | queryWindow => exact of_next e (takeWhere_changes h _ fun c e _ => queryWindowCommand_changes c e)
  | querySlot => exact of_next e (takeWhere_changes h _ fun c e _ => querySlotCommand_changes c e)
  | takeMaster => exact of_next e (takeWhere_changes h _ fun c e _ => takeMasterCommand_changes c e)
  | define => exact of_next e (takeWhere_changes h _ fun c e _ => defineCommand_changes c e)
  | undefine => exact of_next e (takeWhere_changes h _ fun c e _ => undefineCommand_changes c e)
  | openWindow => exact of_next e (takeWhere_changes h _ openCommand_changes)
  | closeWindow => exact of_next e (takeWhere_changes h _ closeCommand_changes)
  | recallWindow => exact of_next e (takeWhere_changes h _ recallCommand_changes)
  | evict => exact of_next e (takeWhere_changes h _ evictCommand_changes)
  | setQuota => exact of_next e (takeWhere_changes h _ fun c e _ => setQuotaCommand_changes c e)
  | setEligible => exact of_next e (takeWhere_changes h _ fun c e _ => setEligibleCommand_changes c e)
  | setTiming => exact of_next e (takeWhere_changes h _ fun c e _ => setTimingCommand_changes c e)
  | handMaster => exact of_next e (takeWhere_changes h _ fun c e _ => handMasterCommand_changes c e)
  | unknownOpcode => exact of_next e (takeWhere_changes h _ fun _ _ _ => .refl)
  | respPop n _ => exact of_next e (port n fun _ => .of_slots ⟨rfl, rfl, rfl⟩ rfl)
  | notice0Read n => exact of_next e (port n fun _ => .of_slots ⟨rfl, rfl, rfl⟩ rfl)
  | noticePop n _ => exact of_next e (port n fun _ => .of_slots ⟨rfl, rfl, rfl⟩ rfl)
  | attnEnWrite n _ => exact of_next e (port n fun _ => .of_slots ⟨rfl, rfl, rfl⟩ rfl)
  | controlBlockWrite n addr width value =>
    refine of_next e ?_
    split
    · refine port n fun m => ?_
      split
      · exact writePort_still ..
      · exact .of_slots ⟨rfl, rfl, rfl⟩ rfl
    · exact .refl
  | controlBlockRead n addr width =>
    refine of_next e ?_
    split
    · refine port n fun m => ?_
      split
      · exact readPort_still ..
      · exact .of_slots ⟨rfl, rfl, rfl⟩ rfl
    · exact .refl
  | cycleCheck n addr kind _ =>
    refine of_next e ?_
    split
    · exact .refl
    · exact (Changes.of_still (reloadSilence_still s n)).trans (carryOut_changes ..)
  | cycleEnd => exact of_next e (Changes.of_still (.of_slots ⟨rfl, rfl, rfl⟩ rfl))
  | tick =>
    refine of_next e ?_
    split
    · exact .refl
    · exact .of_still (.of_slots ⟨rfl, rfl, rfl⟩ rfl)
  | claimTableTick =>
    refine of_next e ?_
    split
    · exact .refl
    · have h1 : Changes s { s with claimTicksDue := s.claimTicksDue - 1 } :=
        .of_still (.of_slots ⟨rfl, rfl, rfl⟩ rfl)
      exact h1.trans (foldl_changes (fun w h => tickWindow_changes h w) allWindows _ (h.changes h1))
  | slotTableTick =>
    refine of_next e ?_
    split
    · exact .refl
    · have h1 : Changes s { s with slotTicksDue := s.slotTicksDue - 1 } := .of_still (.of_slots ⟨rfl, rfl, rfl⟩ rfl)
      exact h1.trans (tickSlots_changes (h.changes h1))
  | waitTimeout r => exact of_next e (lastTick_changes h r (by decide))
  | leaseExpiry r => exact of_next e (lastTick_changes h r (by decide))
  | graceExpiry r => exact of_next e (lastTick_changes h r (by decide))
  | recallLimitExpiry r => exact of_next e (lastTick_changes h r (by decide))
  | silenceExpiry n => exact of_next e (lastSilence_changes h n)
  | presRise n =>
    have h1 : Changes s (s.setLine n true) := .of_still (.of_slots ⟨rfl, rfl, rfl⟩ rfl)
    refine of_next e ?_
    split
    · exact h1
    · exact h1.trans (rise_changes _ n)
  | presFall n =>
    have h1 : Changes s (s.setLine n false) := .of_still (.of_slots ⟨rfl, rfl, rfl⟩ rfl)
    refine of_next e ?_
    split
    · exact h1
    · exact h1.trans (fall_changes (h.changes h1) n)
  | slotReset n =>
    refine of_next e ?_
    split
    · exact .refl
    · exact slotReset_changes h n
  | backplaneReset =>
    refine of_next e ?_
    split
    · exact .refl
    · exact backplaneReset_changes s
  | powerOnReset elig =>
    exact of_next e (.single (.reset (record_powerOn s.presLines elig) (claim_powerOn s.presLines elig)
      fun w => .inl (window_powerOn s.presLines elig w)))
  | porAsserted => exact of_next e (Changes.of_still (.of_slots ⟨rfl, rfl, rfl⟩ rfl))

/-- Every step is a sequence of changes. -/
theorem step_changes {s t : State} (h : ClaimsLawful s) (e : step s = .next t) : Changes s t := by
  cases hp : s.pending with
  | nil =>
    rw [step_of_idle hp] at e
    exact of_next e (.of_still (refclk_still s))
  | cons i rest =>
    rw [step_of_pending hp] at e
    have h1 : Changes s { s with pending := rest } := .of_still (.of_slots ⟨rfl, rfl, rfl⟩ rfl)
    exact h1.trans (exec_changes (h.changes h1) i e)

/-- Settles O56: every step is a sequence of changes, each of which keeps the laws and the quotas. -/
theorem claimTableLawsKept : Obligations.ClaimTableLawsKept := by
  unfold Obligations.ClaimTableLawsKept
  intro s t h e
  have hsteps := step_changes h e
  refine ⟨h.changes hsteps, fun hq => ?_⟩
  exact (hsteps.keep (P := fun u => ClaimsLawful u ∧ QuotasLawful u)
    (fun hu k => ⟨hu.1.change k, hu.2.change hu.1 k⟩) ⟨h, hq⟩).2

end Sys2Proof.Machine
end

section
/-! SUPPORT. Records stay on windows in a state that admits them, name ACTIVE slots, and have time left (R22, R29). -/

namespace Sys2Proof.Machine

/-! ### Where records may stand (R29) -/

/-- A window in this state admits a record in this phase. -/
def WindowState.Admits (x : WindowState) (p : ClaimPhase) : Prop :=
  (p = .waiting → x = .opened) ∧ (p.isHold = true → x = .opened ∨ x = .draining) ∧
    (p.isHold = true → x = .draining → p = .recalled)

theorem recordsPlaced_iff {s : State} :
    RecordsPlaced s ↔ ∀ r, ((s.record r).phase ≠ .free → (s.slot (s.record r).slot).state = .active) ∧
      (s.window (s.record r).window).state.Admits (s.record r).phase := .rfl

/-- An OPEN window admits every record. -/
theorem WindowState.admits_opened (p : ClaimPhase) : WindowState.opened.Admits p := by
  simp [WindowState.Admits]

/-- A DRAINING window admits a RECALLED hold. -/
theorem WindowState.admits_recalled : WindowState.draining.Admits .recalled := by
  simp [WindowState.Admits]

/-- Every window admits a FREE record. -/
theorem WindowState.admits_free (x : WindowState) : x.Admits .free := by
  simp [WindowState.Admits]

section
variable {s t : State} {w : WindowId} {r : RecordId}

theorem RecordsPlaced.active (h : RecordsPlaced s) (hr : (s.record r).phase ≠ .free) :
    (s.slot (s.record r).slot).state = .active := (h r).1 hr

theorem RecordsPlaced.admits (h : RecordsPlaced s) (r : RecordId) :
    (s.window (s.record r).window).state.Admits (s.record r).phase := (h r).2

theorem RecordsPlaced.opened_of_waiting (h : RecordsPlaced s) (hr : (s.record r).phase = .waiting) :
    (s.window (s.record r).window).state = .opened := (h.admits r).1 hr

/-- A hold that is not RECALLED stands on an OPEN window. -/
theorem RecordsPlaced.opened_of_hold (h : RecordsPlaced s) (hr : (s.record r).phase.isHold = true)
    (hkept : (s.record r).phase ≠ .recalled) : (s.window (s.record r).window).state = .opened := by
  obtain ⟨-, hstate, hdrain⟩ := h.admits r
  exact (hstate hr).resolve_right fun hd => hkept (hdrain hr hd)

/-- A record in use stands on an OPEN or DRAINING window. -/
theorem RecordsPlaced.open_or_draining (h : RecordsPlaced s) (hr : (s.record r).phase ≠ .free) :
    (s.window (s.record r).window).state = .opened ∨ (s.window (s.record r).window).state = .draining := by
  by_cases hw : (s.record r).phase = .waiting
  · exact .inl (h.opened_of_waiting hw)
  · exact (h.admits r).2.1 (ClaimPhase.isHold_of_used hr hw)

/-- A window that is neither OPEN nor DRAINING has no record in use. -/
theorem RecordsPlaced.unused (h : RecordsPlaced s)
    (hw : (s.window w).state ≠ .opened ∧ (s.window w).state ≠ .draining ∨
      ∀ r, (s.record r).phase ≠ .free → (s.record r).window ≠ w)
    (r : RecordId) (hr : (s.record r).phase ≠ .free) : (s.record r).window ≠ w := by
  obtain ⟨ho, hd⟩ | hno := hw
  · rintro rfl
    exact (h.open_or_draining hr).elim ho hd
  · exact hno r hr

/-- Records in use that were in use before, on windows and for slots in the same state, in a phase that is admitted. -/
theorem RecordsPlaced.of_usedFrom (h : RecordsPlaced s) (k : UsedFrom s t)
    (hslot : ∀ n, (t.slot n).state = (s.slot n).state) (hwindow : ∀ v, (t.window v).state = (s.window v).state)
    (hphase : ∀ r, (t.record r).phase ≠ .free → (s.window (s.record r).window).state.Admits (t.record r).phase) :
    RecordsPlaced t := recordsPlaced_iff.mpr fun r => by
  by_cases hr : (t.record r).phase = .free
  · exact ⟨fun hf => absurd hr hf, hr ▸ WindowState.admits_free _⟩
  · obtain ⟨hs, hrs, hrw⟩ := k r hr
    rw [hslot, hwindow, hrs, hrw]
    exact ⟨fun _ => h.active hs, hphase r hr⟩

/-- The same, where record `r` alone changes and stands on an OPEN window. -/
theorem RecordsPlaced.of_one (h : RecordsPlaced s) (others : ∀ q, q ≠ r → t.record q = s.record q)
    (hslot : ∀ n, (t.slot n).state = (s.slot n).state) (hwindow : ∀ v, (t.window v).state = (s.window v).state)
    (hactive : (s.slot (t.record r).slot).state = .active)
    (hopen : (s.window (t.record r).window).state = .opened) : RecordsPlaced t := recordsPlaced_iff.mpr fun q => by
  rw [hslot, hwindow]
  by_cases hq : q = r
  · subst hq
    exact ⟨fun _ => hactive, hopen ▸ WindowState.admits_opened _⟩
  · rw [others q hq]
    exact h q

theorem RecordsPlaced.grant (h : RecordsPlaced s) (hr : (s.record r).phase = .waiting) : RecordsPlaced (s.grant r) :=
  h.of_one (r := r) (fun q hq => by simp [hq]) (fun n => by simp) (fun v => by simp)
    (by simpa using h.active (r := r) (by simp [hr])) (by simpa using h.opened_of_waiting hr)

theorem RecordsPlaced.passStep (h : RecordsPlaced s) (k : PassStep w s t) : RecordsPlaced t := by
  cases k with
  | grantHead _ _ _ waiting _ _ => exact h.grant waiting
  | @completeUpgrade r opened _ holders _ =>
    obtain ⟨hh, hw⟩ := isHoldOn_iff.mp (mem_holders.mp (by simp [holders] : r ∈ s.holders w))
    exact h.of_one (r := r) (fun q hq => by simp [hq]) (fun n => by simp) (fun v => by simp)
      (by simpa using h.active (r := r) (ClaimPhase.ne_free_of_isHold hh)) (by simpa [hw] using opened)

theorem RecordsPlaced.grantPass (h : RecordsPlaced s) (hc : ClaimsLawful s) (w : WindowId) :
    RecordsPlaced (s.grantPass w) :=
  (grantPass_keeps (P := fun t => ClaimsLawful t ∧ RecordsPlaced t) (fun ht => ht.1.waitLists)
    (fun ht k => ⟨ht.1.passStep k, ht.2.passStep k⟩) ⟨hc, h⟩).2

/-- Where time passes on an admitted record, it stays admitted: no HELD record stands on a DRAINING window. -/
theorem ClaimRecord.RunsOn.admits {grace : BitVec 8} {c c' : ClaimRecord} (h : c.RunsOn grace c') {x : WindowState}
    (hx : x.Admits c.phase) : x.Admits c'.phase := by
  obtain ⟨p, k, rfl, ⟨rfl, -⟩ | ⟨hp, rfl, -⟩⟩ := h
  · exact hx
  · obtain ⟨-, hstate, hdrain⟩ := hx
    rw [hp] at hstate hdrain
    have hopen : x = .opened := (hstate rfl).resolve_right fun hd => by simpa using hdrain rfl hd
    exact hopen ▸ WindowState.admits_opened _

theorem RecordsPlaced.thinned (h : RecordsPlaced s) (k : Thinned w s t) : RecordsPlaced t :=
  h.of_usedFrom k.usedFrom (fun n => by rw [k.slot]) (fun v => by rw [k.window]) fun r hr =>
    (k.used hr).admits (h.admits r)

/-- The window of a record changes where no record in use stands on it. -/
theorem RecordsPlaced.of_unused (h : RecordsPlaced s) (hr : ∀ r, t.record r = s.record r)
    (hslot : ∀ n, (t.slot n).state = (s.slot n).state) (hwindow : ∀ v, v ≠ w → t.window v = s.window v)
    (hunused : ∀ r, (s.record r).phase ≠ .free → (s.record r).window ≠ w) : RecordsPlaced t :=
  recordsPlaced_iff.mpr fun r => by
    rw [hr, hslot]
    refine ⟨(h r).1, ?_⟩
    by_cases hf : (s.record r).phase = .free
    · exact hf ▸ WindowState.admits_free _
    · rw [hwindow _ (hunused r hf)]
      exact h.admits r

/-- A DRAINING window whose last hold was retired has no record, and may be CLOSED (R13). -/
theorem RecordsPlaced.lastHoldRetired (h : RecordsPlaced s) (hno : s.holders w = []) (x : Option SlotId) :
    RecordsPlaced (s.lastHoldRetired w x) := by
  by_cases hd : (s.window w).state = .draining
  · refine h.of_unused (w := w) (fun r => by simp) (fun n => by simp) (fun v hv => by simp [hv]) fun r hr hw => ?_
    by_cases hp : (s.record r).phase = .waiting
    · have := h.opened_of_waiting hp
      simp [hw, hd] at this
    · have := holders_eq_nil.mp hno r
      simp [State.isHoldOn, ClaimPhase.isHold_of_used hr hp, hw] at this
  · exact h.of_usedFrom (.of_records fun r => by simp) (fun n => by simp) (fun v => by simp [hd]) fun r _ => by
      simpa using h.admits r

theorem RecordsPlaced.followUps (h : RecordsPlaced s) (hc : ClaimsLawful s) (w : WindowId) (held : Bool)
    (x : Option SlotId) : RecordsPlaced (s.followUps w held x) := by
  unfold State.followUps
  split
  · next hlast => exact (h.lastHoldRetired hlast.2 x).grantPass (hc.lastHoldRetired w x) w
  · exact h.grantPass hc w

theorem RecordsPlaced.placed {b : SlotId} (h : RecordsPlaced s) (k : Placed w b s t) : RecordsPlaced t := by
  cases k with
  | @moved r waiting =>
    obtain ⟨hphase, -, -⟩ := waitingOf_some waiting
    exact h.of_one (r := r) (fun q hq => by simp [hq]) (fun n => by simp) (fun v => by simp)
      (by simpa using h.active (r := r) (by simp [hphase])) (by simpa using h.opened_of_waiting hphase)
  | @inserted r claimable =>
    exact h.of_one (r := r) (fun q hq => by simp [hq]) (fun n => by simp) (fun v => by simp)
      (by simpa using claimable.active) (by simpa using claimable.opened)

theorem RecordsPlaced.markRecall (h : RecordsPlaced s) (hopen : (s.window w).state = .opened) (b : Option SlotId) :
    RecordsPlaced (s.markRecall w b) :=
  h.of_usedFrom (.of_recall (record_markRecall s w b)) (fun n => by simp) (fun v => by simp) fun r _ => by
    rw [record_markRecall]
    split
    · next hh =>
      rw [(isHoldOn_iff.mp hh).2, hopen]
      exact WindowState.admits_opened _
    · exact h.admits r

/-- A DRAINING window has RECALLED holds alone (R12, R102). -/
theorem RecordsPlaced.drain (h : RecordsPlaced s) (hc : ClaimsLawful s) (hlist : (s.claim w).waitList = [])
    (u : Option SlotId) : RecordsPlaced (s.drain w u) := recordsPlaced_iff.mpr fun r => by
  by_cases hh : s.isHoldOn w r = true
  · obtain ⟨hhold, hw⟩ := isHoldOn_iff.mp hh
    have hactive := h.active (ClaimPhase.ne_free_of_isHold hhold)
    simp only [record_drain, hh, if_true, slot_recall, window_recall, phase_recall, slot_drain, window_drain, hw]
    exact ⟨fun _ => hactive, WindowState.admits_recalled⟩
  · simp only [record_drain, if_neg hh, slot_drain]
    refine ⟨(h r).1, ?_⟩
    by_cases hf : (s.record r).phase = .free
    · exact hf ▸ WindowState.admits_free _
    · have hw : (s.record r).window ≠ w := fun hw => by
        by_cases hp : (s.record r).phase = .waiting
        · have := ((hc.waitLists w).2 r).mpr ⟨hp, hw⟩
          simp [hlist] at this
        · exact hh (isHoldOn_iff.mpr ⟨ClaimPhase.isHold_of_used hf hp, hw⟩)
      rw [window_drain, if_neg hw]
      exact h.admits r

/-- Every change keeps records where they may stand (R29). -/
theorem RecordsPlaced.change (h : RecordsPlaced s) (hc : ClaimsLawful s) (k : Change s t) : RecordsPlaced t := by
  cases k with
  | quiet tables standing =>
    have hrecord : ∀ r, t.record r = s.record r := fun r => by simp only [State.record, tables.records]
    refine recordsPlaced_iff.mpr fun r => ?_
    rw [hrecord]
    refine ⟨fun hr => ?_, ?_⟩
    · exact (standing.active _ (h.active hr)).resolve_right fun hno => hno r hr rfl
    · simpa only [State.window, tables.windows] using h.admits r
  | pass k => exact h.passStep k
  | thin k _ => exact h.thinned k
  | endHolds k x => exact (h.thinned k).followUps (hc.thinned k) _ true x
  | @takeHold c w m r tag claimable _ =>
    exact h.of_one (r := r) (fun q hq => by simp [hq]) (fun n => by simp) (fun v => by simp)
      (by simpa using claimable.active) (by simpa using claimable.opened)
  | @enqueue c w r m tag wait claimable =>
    exact h.of_one (r := r) (fun q hq => by simp [hq]) (fun n => by simp) (fun v => by simp)
      (by simpa using claimable.active) (by simpa using claimable.opened)
  | @restart r m hold kept _ _ =>
    exact h.of_one (r := r) (fun q hq => by simp [hq]) (fun n => by simp) (fun v => by simp)
      (by simpa using h.active (ClaimPhase.ne_free_of_isHold hold)) (by simpa using h.opened_of_hold hold kept)
  | setUpgrader u _ => exact h
  | @transfer w r q _ hold _ waiting _ =>
    obtain ⟨hthin, hq⟩ := transfer_thinned hc.waitLists hold waiting
    exact (h.thinned hthin).grant (by rw [hq, waiting])
  | redefine unused _ =>
    exact h.of_unused (fun r => rfl) (fun n => rfl) (fun v hv => by simp [hv]) (h.unused unused)
  | drain u _ list _ => exact h.drain hc list u
  | recallHeld opened _ _ => exact h.markRecall opened none
  | recallFor opened _ _ k => exact (h.markRecall opened _).placed k
  | recallUnheld _ _ _ k => exact (h.placed k).grantPass (hc.placed k) _
  | reset records _ _ => exact recordsPlaced_iff.mpr fun r => by simp [records, WindowState.admits_free]

end

/-! ### Time left (R22) -/

section
variable {s t : State} {w : WindowId} {r : RecordId}

/-- A change of the window's state, or the clearing of the window, under the follow-ups of a retirement. -/
theorem followUps_kept (s : State) (w : WindowId) (held : Bool) (x : Option SlotId) (v : WindowId) :
    (s.window v).KeptAs ((s.followUps w held x).window v) := by
  have hpass : ∀ u : State, (u.grantPass w).window v = u.window v := fun u => by
    simp only [State.window, grantPass_windows]
  unfold State.followUps
  rw [hpass]
  split
  · rw [window_lastHoldRetired]
    split
    · next hd =>
      obtain ⟨rfl, hd⟩ := hd
      exact .of_state (by simp [hd]) (by decide)
    · exact .refl _
  · exact .refl _

/-- Every change keeps the definitions of the windows lawful (R7). -/
theorem definitionsLawful_change (h : ∀ w, (s.window w).lawful) (k : Change s t) (w : WindowId) :
    (t.window w).lawful := by
  have kept : ∀ {t : State}, (∀ v, t.window v = s.window v) → (t.window w).lawful := fun ht => by
    rw [ht]
    exact h w
  cases k with
  | quiet tables _ => exact kept fun v => by simp only [State.window, tables.windows]
  | pass k => exact kept fun v => by cases k <;> simp
  | thin k _ => exact kept k.window
  | endHolds k x => exact (followUps_kept _ _ true x w).lawful (kept k.window)
  | takeHold | enqueue | restart | setUpgrader => exact h w
  | transfer => exact kept fun v => by simp
  | @redefine v d _ lawful =>
    by_cases hv : w = v
    · subst hv
      rw [State.window_setWindow, if_pos rfl]
      exact lawful.elim id fun hk => hk.lawful (h w)
    · rw [State.window_setWindow, if_neg hv]
      exact h w
  | @drain v u opened _ _ =>
    by_cases hv : w = v
    · subst hv
      rw [window_drain, if_pos rfl]
      exact (WindowRecord.KeptAs.of_state (by simp [opened]) (by decide)).lawful (h w)
    · rw [window_drain, if_neg hv]
      exact h w
  | recallHeld => exact kept fun v => by simp
  | recallFor _ _ _ k => exact kept fun v => by cases k <;> simp
  | recallUnheld _ _ _ k =>
    refine kept fun v => ?_
    simp only [State.window, grantPass_windows]
    cases k <;> rfl
  | reset _ _ windows => exact (windows w).lawful (h w)

theorem setWidth_ne_zero {x : BitVec 8} (h : x ≠ 0) : x.setWidth 16 ≠ 0 := fun h0 => h <| by
  have hnat := congrArg BitVec.toNat h0
  have hlt := x.isLt
  apply BitVec.eq_of_toNat_eq
  simp only [BitVec.toNat_setWidth, BitVec.ofNat_eq_ofNat, BitVec.toNat_ofNat] at hnat ⊢
  omega

/-- A window with a record in use has a grace and a recall limit (R7, R29). -/
theorem periods_of_used (hd : ∀ w, (s.window w).lawful) (hp : RecordsPlaced s) (hr : (s.record r).phase ≠ .free) :
    (s.window (s.record r).window).grace ≠ 0 ∧ (s.window (s.record r).window).recallLimit ≠ 0 := by
  have hdef : (s.window (s.record r).window).state ≠ .undefined := by
    rcases hp.open_or_draining hr with h | h <;> simp [h]
  obtain ⟨-, -, hgrace, hlimit⟩ := (hd _).2 hdef
  exact ⟨hgrace, hlimit⟩

/-- Only record `r` changes, and it is neither LAPSING nor RECALLED. -/
theorem CountersLawful.of_one (h : CountersLawful s) (others : ∀ q, q ≠ r → t.record q = s.record q)
    (hr : ¬((t.record r).phase = .lapsing ∨ (t.record r).phase = .recalled)) : CountersLawful t := fun q hq => by
  by_cases hqr : q = r
  · subst hqr
    exact absurd hq hr
  · rw [others q hqr] at hq ⊢
    exact h q hq

theorem CountersLawful.of_records (h : CountersLawful s) (hr : ∀ r, t.record r = s.record r) : CountersLawful t :=
  fun r => by
    rw [hr]
    exact h r

theorem CountersLawful.grant (h : CountersLawful s) : CountersLawful (s.grant r) :=
  h.of_one (r := r) (fun q hq => by simp [hq]) (by simp)

theorem CountersLawful.passStep (h : CountersLawful s) (k : PassStep w s t) : CountersLawful t := by
  cases k with
  | grantHead => exact h.grant
  | @completeUpgrade r => exact h.of_one (r := r) (fun q hq => by simp [hq]) (by simp)

theorem CountersLawful.grantPass (h : CountersLawful s) (hc : ClaimsLawful s) (w : WindowId) :
    CountersLawful (s.grantPass w) :=
  (grantPass_keeps (P := fun t => ClaimsLawful t ∧ CountersLawful t) (fun ht => ht.1.waitLists)
    (fun ht k => ⟨ht.1.passStep k, ht.2.passStep k⟩) ⟨hc, h⟩).2

theorem CountersLawful.followUps (h : CountersLawful s) (hc : ClaimsLawful s) (w : WindowId) (held : Bool)
    (x : Option SlotId) : CountersLawful (s.followUps w held x) := by
  unfold State.followUps
  split
  · exact CountersLawful.grantPass (h.of_records fun r => by simp) (hc.lastHoldRetired w x) w
  · exact h.grantPass hc w

/-- A record that becomes LAPSING has the grace, and one that counts on has not reached 0 (R22, R24). -/
theorem CountersLawful.thinned (h : CountersLawful s) (hd : ∀ w, (s.window w).lawful) (hp : RecordsPlaced s)
    (k : Thinned w s t) : CountersLawful t := fun r hr => by
  have hf : (t.record r).phase ≠ .free := by rcases hr with hr | hr <;> simp [hr]
  have hrun := k.used hf
  have hgrace := (periods_of_used hd hp (k.usedFrom r hf).1).1
  obtain ⟨p, n, heq, ⟨rfl, -, hcount⟩ | ⟨-, -, rfl⟩⟩ := hrun
  · rw [heq] at hr ⊢
    exact hcount hr (h r hr)
  · rw [heq]
    exact setWidth_ne_zero hgrace

/-- The holds of window `w` become RECALLED with its recall limit (R22). -/
theorem CountersLawful.of_recall (h : CountersLawful s) (hd : ∀ w, (s.window w).lawful) (hp : RecordsPlaced s)
    (k : ∀ r, t.record r =
      if s.isHoldOn w r = true then (s.record r).recall (s.window w).recallLimit else s.record r) :
    CountersLawful t := fun r hr => by
  rw [k] at hr ⊢
  split at hr
  · next hh =>
    obtain ⟨hhold, hw⟩ := isHoldOn_iff.mp hh
    have hlimit := (periods_of_used hd hp (ClaimPhase.ne_free_of_isHold hhold)).2
    rw [if_pos hh]
    unfold ClaimRecord.recall
    split
    · next hrec => exact h r (.inr hrec)
    · exact setWidth_ne_zero (hw ▸ hlimit)
  · next hh =>
    rw [if_neg hh]
    exact h r hr

theorem CountersLawful.placed {b : SlotId} (h : CountersLawful s) (k : Placed w b s t) : CountersLawful t := by
  obtain ⟨r, k⟩ := k.at
  exact h.of_one k.others (by simp [k.phase])

/-- Every change leaves a LAPSING or RECALLED record time (R22). -/
theorem CountersLawful.change (h : CountersLawful s) (hd : ∀ w, (s.window w).lawful) (hp : RecordsPlaced s)
    (hc : ClaimsLawful s) (k : Change s t) : CountersLawful t := by
  cases k with
  | quiet tables _ => exact h.of_records fun r => by simp only [State.record, tables.records]
  | pass k => exact h.passStep k
  | thin k _ => exact h.thinned hd hp k
  | endHolds k x => exact (h.thinned hd hp k).followUps (hc.thinned k) _ true x
  | @takeHold c w m r => exact h.of_one (r := r) (fun q hq => by simp [hq]) (by simp)
  | @enqueue c w r => exact h.of_one (r := r) (fun q hq => by simp [hq]) (by simp)
  | @restart r m => exact h.of_one (r := r) (fun q hq => by simp [hq]) (by simp)
  | setUpgrader => exact h
  | @transfer w r q =>
    exact (h.of_one (r := r) (t := s.retire r) (fun q hq => by simp [hq]) (by simp)).grant
  | redefine => exact h
  | drain u => exact h.of_recall hd hp (record_drain s _ u)
  | recallHeld => exact h.of_recall hd hp (record_markRecall s _ none)
  | @recallFor w b _ _ _ _ k => exact (h.of_recall hd hp (record_markRecall s w (some b))).placed k
  | recallUnheld _ _ _ k => exact (h.placed k).grantPass (hc.placed k) _
  | reset records _ _ => exact fun r hr => by simp [records] at hr

end

/-- Settles O57: each change of a step keeps the records placed and, with the definitions in range, timed. -/
theorem recordsStayPlaced : Obligations.RecordsStayPlaced := by
  unfold Obligations.RecordsStayPlaced
  intro s t hw hc hp e
  have hsteps := step_changes hc e
  refine ⟨?_, fun hcount => ?_⟩
  · exact (hsteps.keep (P := fun u => ClaimsLawful u ∧ RecordsPlaced u)
      (fun hu k => ⟨hu.1.change k, hu.2.change hu.1 k⟩) ⟨hc, hp⟩).2
  · exact (hsteps.keep
      (P := fun u => ClaimsLawful u ∧ RecordsPlaced u ∧ (∀ w, (u.window w).lawful) ∧ CountersLawful u)
      (fun hu k => by
        obtain ⟨hc, hp, hd, hcount⟩ := hu
        exact ⟨hc.change k, hp.change hc k, definitionsLawful_change hd k, hcount.change hd hp hc k⟩)
      ⟨hc, hp, hw.1, hcount⟩).2.2.2

end Sys2Proof.Machine
end

section
/-! SUPPORT. Pending upgrades are held SHARED, and windows under recall are OPEN with RECALLED holds (R22, R27, R28). -/

namespace Sys2Proof.Machine

/-! ### Pending upgrades (R27) -/

/-- The law of the pending upgrades in terms of the records: the upgrader has a SHARED hold that is not RECALLED. -/
def UpgradesHeld (s : State) : Prop :=
  ∀ w u, (s.claim w).upgrader = some u →
    ∃ r, s.isHoldOn w r = true ∧ (s.record r).slot = u ∧ (s.record r).mode = .shared ∧ (s.record r).phase ≠ .recalled

section
variable {s t : State} {w : WindowId} {r : RecordId}

/-- A slot's hold on a window is the one that `holdOf` finds, since it has no other (R30). -/
theorem holdOf_eq_some {n : SlotId} (h : OneRecordEach s) :
    s.holdOf n w = some r ↔ s.isHoldOn w r = true ∧ (s.record r).slot = n := by
  constructor
  · intro hr
    obtain ⟨hh, hw, hslot⟩ := holdOf_some hr
    exact ⟨isHoldOn_iff.mpr ⟨hh, hw⟩, hslot⟩
  · rintro ⟨hr, hslot⟩
    cases hq : s.holdOf n w with
    | none => exact absurd hslot (holdOf_none.mp hq r hr)
    | some q =>
      obtain ⟨hh, hw, hqs⟩ := holdOf_some hq
      obtain ⟨hrh, hrw⟩ := isHoldOn_iff.mp hr
      rw [h.eq_of_same (ClaimPhase.ne_free_of_isHold hh) (ClaimPhase.ne_free_of_isHold hrh) (hqs.trans hslot.symm)
        (hw.trans hrw.symm)]

theorem upgradersLawful_iff (h : OneRecordEach s) : UpgradersLawful s ↔ UpgradesHeld s := by
  refine forall_congr' fun w => forall_congr' fun u => imp_congr_right fun _ => exists_congr fun r => ?_
  rw [holdOf_eq_some h, ClaimPhase.isRenewable_iff]
  constructor
  · rintro ⟨⟨hr, hslot⟩, hmode, -, hkept⟩
    exact ⟨hr, hslot, hmode, hkept⟩
  · rintro ⟨hr, hslot, hmode, hkept⟩
    exact ⟨⟨hr, hslot⟩, hmode, (isHoldOn_iff.mp hr).1, hkept⟩

/-- The upgrades that stay pending keep their holds, where those are not changed. -/
theorem UpgradesHeld.of_holds (h : UpgradesHeld s)
    (hup : ∀ v u, (t.claim v).upgrader = some u → (s.claim v).upgrader = some u)
    (hr : ∀ v u r, (t.claim v).upgrader = some u → s.isHoldOn v r = true → (s.record r).slot = u →
      (s.record r).mode = .shared → (s.record r).phase ≠ .recalled →
      (t.record r).phase.isHold = true ∧ (t.record r).window = (s.record r).window ∧
        (t.record r).slot = (s.record r).slot ∧ (t.record r).mode = .shared ∧ (t.record r).phase ≠ .recalled) :
    UpgradesHeld t := fun v u hu => by
  obtain ⟨r, hhold, hslot, hmode, hkept⟩ := h v u (hup v u hu)
  obtain ⟨hh, hw, hs, hm, hk⟩ := hr v u r hu hhold hslot hmode hkept
  exact ⟨r, isHoldOn_iff.mpr ⟨hh, hw.trans (isHoldOn_iff.mp hhold).2⟩, hs.trans hslot, hm, hk⟩

/-- The upgrades that stay pending keep their holds where records change that are no holds of theirs. -/
theorem UpgradesHeld.of_kept (h : UpgradesHeld s)
    (hup : ∀ v u, (t.claim v).upgrader = some u → (s.claim v).upgrader = some u)
    (hr : ∀ v r, (t.claim v).upgrader ≠ none → s.isHoldOn v r = true → t.record r = s.record r) : UpgradesHeld t :=
  h.of_holds hup fun v u r hu hhold _ hmode hkept => by
    rw [hr v r (by simp [hu]) hhold]
    exact ⟨(isHoldOn_iff.mp hhold).1, rfl, rfl, hmode, hkept⟩

theorem UpgradesHeld.grant (h : UpgradesHeld s) (hr : (s.record r).phase = .waiting) : UpgradesHeld (s.grant r) :=
  h.of_kept (fun v u hu => by
    rw [claim_grant] at hu
    split at hu <;> exact hu) fun v q _ hq => by
    have hqr : q ≠ r := fun he => ClaimPhase.ne_waiting_of_isHold (isHoldOn_iff.mp hq).1 (he ▸ hr)
    simp [hqr]

theorem UpgradesHeld.passStep (h : UpgradesHeld s) (k : PassStep w s t) : UpgradesHeld t := by
  cases k with
  | grantHead _ _ _ waiting _ _ => exact h.grant waiting
  | @completeUpgrade r _ _ holders _ =>
    obtain ⟨-, hw⟩ := isHoldOn_iff.mp (mem_holders.mp (by simp [holders] : r ∈ s.holders w))
    have hother : ∀ v, ((s.completeUpgrade w r).claim v).upgrader ≠ none → v ≠ w := fun v hv he => by
      simp [he] at hv
    refine h.of_kept (fun v u hu => ?_) fun v q hv hq => ?_
    · have hv := hother v (hu ▸ Option.some_ne_none u)
      simpa [hv] using hu
    · have hqr : q ≠ r := fun he => hother v hv ((isHoldOn_iff.mp hq).2.symm.trans (he ▸ hw))
      simp [hqr]

theorem UpgradesHeld.grantPass (h : UpgradesHeld s) (hc : ClaimsLawful s) (w : WindowId) :
    UpgradesHeld (s.grantPass w) :=
  (grantPass_keeps (P := fun t => ClaimsLawful t ∧ UpgradesHeld t) (fun ht => ht.1.waitLists)
    (fun ht k => ⟨ht.1.passStep k, ht.2.passStep k⟩) ⟨hc, h⟩).2

/-- The upgrade of a hold that is retired ends with it (R34). -/
theorem UpgradesHeld.thinned (h : UpgradesHeld s) (k : Thinned w s t) : UpgradesHeld t := by
  refine h.of_holds (fun v u hu => ?_) fun v u r hu hhold hslot hmode hkept => ?_
  · by_cases hv : v = w
    · subst hv
      exact (k.upgrader u hu).1
    · rwa [k.otherClaims v hv] at hu
  · have hrun : (s.record r).RunsOn (s.window (s.record r).window).grace (t.record r) := by
      by_cases hv : v = w
      · subst hv
        exact k.used ((k.upgrader u hu).2 r hhold hslot)
      · exact k.elsewhere fun hw => hv ((isHoldOn_iff.mp hhold).2.symm.trans hw)
    exact ⟨hrun.isHold_eq ▸ (isHoldOn_iff.mp hhold).1, hrun.window_eq, hrun.slot_eq, hrun.mode_eq.trans hmode,
      fun hp => hkept (hrun.recalled_iff.mp hp)⟩

theorem UpgradesHeld.followUps (h : UpgradesHeld s) (hc : ClaimsLawful s) (w : WindowId) (held : Bool)
    (x : Option SlotId) : UpgradesHeld (s.followUps w held x) := by
  unfold State.followUps
  split
  · refine UpgradesHeld.grantPass (h.of_kept (fun v u hu => ?_) fun v r _ _ => by simp) (hc.lastHoldRetired w x) w
    rw [claim_lastHoldRetired] at hu
    split at hu
    · next hv => exact hv ▸ hu
    · exact hu
  · exact h.grantPass hc w

theorem UpgradesHeld.placed {b : SlotId} (h : UpgradesHeld s) (k : Placed w b s t) : UpgradesHeld t := by
  obtain ⟨r, k⟩ := k.at
  refine h.of_kept (fun v u hu => by rwa [← k.upgrader]) fun v q _ hq => k.others q fun he => ?_
  simp [State.isHoldOn, he, k.not_hold] at hq

/-- The holds of a window without a pending upgrade may be recalled. -/
theorem UpgradesHeld.of_recall {limit : BitVec 8} (h : UpgradesHeld s) (hnone : (t.claim w).upgrader = none)
    (hup : ∀ v, v ≠ w → (t.claim v).upgrader = (s.claim v).upgrader)
    (k : ∀ r, t.record r = if s.isHoldOn w r = true then (s.record r).recall limit else s.record r) :
    UpgradesHeld t := by
  have hother : ∀ v, (t.claim v).upgrader ≠ none → v ≠ w := fun v hv he => hv (he ▸ hnone)
  refine h.of_kept (fun v u hu => ?_) fun v r hv hr => ?_
  · rwa [← hup v (hother v (by simp [hu]))]
  · rw [k, if_neg]
    intro hw
    exact hother v hv ((isHoldOn_iff.mp hr).2.symm.trans (isHoldOn_iff.mp hw).2)

theorem UpgradesHeld.markRecall (h : UpgradesHeld s) (b : Option SlotId) : UpgradesHeld (s.markRecall w b) :=
  h.of_recall (w := w) (by simp) (fun v hv => by simp [hv]) (record_markRecall s w b)

end

/-! ### Recalls (R28) -/

/-- The law of the recalls, except that window `w` under recall may have lost its last hold. -/
def RecallsBut (w : WindowId) (s : State) : Prop :=
  (∀ v, (s.claim v).marker ≠ .idle →
    (s.window v).state = .opened ∧ (v ≠ w → s.holders v ≠ []) ∧ (s.claim v).upgrader = none ∧
      ∀ r, s.isHoldOn v r = true → (s.record r).phase = .recalled) ∧
  ∀ r, (s.record r).phase = .recalled →
    (s.claim (s.record r).window).marker ≠ .idle ∨ (s.window (s.record r).window).state = .draining

section
variable {s t : State} {w : WindowId} {r : RecordId}

theorem holders_ne_nil : s.holders w ≠ [] ↔ ∃ r, s.isHoldOn w r = true := by
  simp [holders_eq_nil]

/-- A hold that is not RECALLED stands on a window that is not under recall (R28). -/
theorem RecallsLawful.idle_of_hold (h : RecallsLawful s) (hr : s.isHoldOn w r = true)
    (hkept : (s.record r).phase ≠ .recalled) : (s.claim w).marker = .idle := by
  by_contra hm
  obtain ⟨-, -, -, hall⟩ := h.1 w hm
  exact hkept (hall r hr)

/-- The recalls stay lawful where the markers stay, the windows with records stay in their states, and the records that
change take no part in a recall. -/
theorem RecallsLawful.of_records (h : RecallsLawful s) (hmarker : ∀ v, (t.claim v).marker = (s.claim v).marker)
    (hup : ∀ v, (s.claim v).marker ≠ .idle → (s.claim v).upgrader = none → (t.claim v).upgrader = none)
    (hwindow : ∀ r, (s.record r).phase ≠ .free →
      (t.window (s.record r).window).state = (s.window (s.record r).window).state)
    (hrecord : ∀ r, t.record r = s.record r ∨
      (t.record r).phase ≠ .recalled ∧
        ∀ v, (s.claim v).marker ≠ .idle → s.isHoldOn v r = false ∧ t.isHoldOn v r = false) : RecallsLawful t := by
  have hhold : ∀ v, (s.claim v).marker ≠ .idle → ∀ r, t.isHoldOn v r = s.isHoldOn v r ∧
      (s.isHoldOn v r = true → t.record r = s.record r) := fun v hv r => by
    obtain hr | ⟨-, hr⟩ := hrecord r
    · exact ⟨by simp only [State.isHoldOn, hr], fun _ => hr⟩
    · obtain ⟨hs, ht⟩ := hr v hv
      exact ⟨ht.trans hs.symm, fun hh => by simp [hs] at hh⟩
  refine ⟨fun v hv => ?_, fun r hr => ?_⟩
  · rw [hmarker] at hv
    obtain ⟨hopen, hheld, hnone, hall⟩ := h.1 v hv
    obtain ⟨q, hq⟩ := holders_ne_nil.mp hheld
    obtain ⟨hqh, hqw⟩ := isHoldOn_iff.mp hq
    refine ⟨?_, holders_ne_nil.mpr ⟨q, (hhold v hv q).1.trans hq⟩, hup v hv hnone, fun r hr => ?_⟩
    · rw [← hqw, hwindow q (ClaimPhase.ne_free_of_isHold hqh), hqw]
      exact hopen
    · rw [(hhold v hv r).1] at hr
      rw [(hhold v hv r).2 hr]
      exact hall r hr
  · obtain heq | ⟨hne, -⟩ := hrecord r
    · rw [heq] at hr ⊢
      rw [hmarker, hwindow r (by simp [hr])]
      exact h.2 r hr
    · exact absurd hr hne

/-- The same, where record `r` alone changes: no hold before or after, or on a window that is not under recall. -/
theorem RecallsLawful.of_one (h : RecallsLawful s) (hmarker : ∀ v, (t.claim v).marker = (s.claim v).marker)
    (hup : ∀ v, (s.claim v).marker ≠ .idle → (s.claim v).upgrader = none → (t.claim v).upgrader = none)
    (hwindow : ∀ v, (t.window v).state = (s.window v).state) (others : ∀ q, q ≠ r → t.record q = s.record q)
    (hkept : (t.record r).phase ≠ .recalled)
    (hbefore : (s.record r).phase.isHold = true → (s.claim (s.record r).window).marker = .idle)
    (hafter : (t.record r).phase.isHold = true → (s.claim (t.record r).window).marker = .idle) : RecallsLawful t := by
  refine h.of_records hmarker hup (fun q _ => hwindow _) fun q => ?_
  by_cases hq : q = r
  · subst hq
    refine .inr ⟨hkept, fun v hv => ⟨?_, ?_⟩⟩
    · refine Bool.eq_false_iff.mpr fun hold => ?_
      obtain ⟨hh, rfl⟩ := isHoldOn_iff.mp hold
      exact hv (hbefore hh)
    · refine Bool.eq_false_iff.mpr fun hold => ?_
      obtain ⟨hh, rfl⟩ := isHoldOn_iff.mp hold
      exact hv (hafter hh)
  · exact .inl (others q hq)

theorem RecallsLawful.grant (h : RecallsLawful s) (hr : (s.record r).phase = .waiting)
    (hidle : (s.claim (s.record r).window).marker = .idle) : RecallsLawful (s.grant r) := by
  refine h.of_one (r := r) (fun v => ?_) (fun v _ hv => ?_) (fun v => by simp) (fun q hq => by simp [hq]) (by simp)
    (fun hh => absurd hr (ClaimPhase.ne_waiting_of_isHold hh)) fun _ => by simpa using hidle
  · rw [claim_grant]
    split <;> rfl
  · rw [claim_grant]
    split <;> exact hv

theorem RecallsLawful.passStep (h : RecallsLawful s) (k : PassStep w s t) : RecallsLawful t := by
  cases k with
  | grantHead _ idle _ waiting window _ => exact h.grant waiting (window ▸ idle)
  | @completeUpgrade r _ idle holders _ =>
    obtain ⟨-, hw⟩ := isHoldOn_iff.mp (mem_holders.mp (by simp [holders] : r ∈ s.holders w))
    refine h.of_one (r := r) (fun v => ?_) (fun v _ hv => ?_) (fun v => by simp) (fun q hq => by simp [hq]) (by simp)
      (fun _ => hw ▸ idle) fun _ => by simpa [hw] using idle
    · by_cases hv : v = w <;> simp [hv]
    · by_cases hvw : v = w <;> simp [hvw, hv]

theorem RecallsLawful.grantPass (h : RecallsLawful s) (hc : ClaimsLawful s) (w : WindowId) :
    RecallsLawful (s.grantPass w) :=
  (grantPass_keeps (P := fun t => ClaimsLawful t ∧ RecallsLawful t) (fun ht => ht.1.waitLists)
    (fun ht k => ⟨ht.1.passStep k, ht.2.passStep k⟩) ⟨hc, h⟩).2

/-- The retirement of a beneficiary does not end its recall (R28). -/
theorem Thinned.marker_idle_iff (k : Thinned w s t) (v : WindowId) :
    (t.claim v).marker = .idle ↔ (s.claim v).marker = .idle := by
  by_cases hv : v = w
  · subst hv
    rw [k.marker]
    split
    · rw [dropBeneficiary_eq]
      split <;> simp_all
    · rfl
  · rw [k.otherClaims v hv]

/-- Retirements leave the recalls lawful, but for a window that loses its last hold. -/
theorem RecallsLawful.thinned (h : RecallsLawful s) (k : Thinned w s t) : RecallsBut w t := by
  refine ⟨fun v hv => ?_, fun r hr => ?_⟩
  · rw [ne_eq, k.marker_idle_iff] at hv
    obtain ⟨hopen, hheld, hnone, hall⟩ := h.1 v hv
    refine ⟨by rwa [k.window], fun hvw => ?_, ?_, fun r hr => ?_⟩
    · obtain ⟨q, hq⟩ := holders_ne_nil.mp hheld
      obtain ⟨hqh, hqw⟩ := isHoldOn_iff.mp hq
      have hrun := k.elsewhere (r := q) fun hw => hvw (hqw.symm.trans hw)
      exact holders_ne_nil.mpr ⟨q, isHoldOn_iff.mpr ⟨hrun.isHold_eq ▸ hqh, hrun.window_eq.trans hqw⟩⟩
    · cases hu : (t.claim v).upgrader with
      | none => rfl
      | some u =>
        by_cases hvw : v = w
        · subst hvw
          have := (k.upgrader u hu).1
          simp [hnone] at this
        · rw [k.otherClaims v hvw, hnone] at hu
          cases hu
    · obtain ⟨hh, hw⟩ := isHoldOn_iff.mp hr
      have hrun := k.used (ClaimPhase.ne_free_of_isHold hh)
      exact hrun.recalled_iff.mpr (hall r (isHoldOn_iff.mpr ⟨hrun.isHold_eq ▸ hh, hrun.window_eq ▸ hw⟩))
  · have hrun := k.used (r := r) (by simp [hr])
    rw [hrun.window_eq, ne_eq, k.marker_idle_iff, k.window]
    exact h.2 r (hrun.recalled_iff.mp hr)

theorem RecallsBut.lawful (h : RecallsBut w s) (hw : (s.claim w).marker ≠ .idle → s.holders w ≠ []) :
    RecallsLawful s := by
  refine ⟨fun v hv => ?_, h.2⟩
  obtain ⟨hopen, hheld, hnone, hall⟩ := h.1 v hv
  refine ⟨hopen, ?_, hnone, hall⟩
  by_cases hvw : v = w
  · subst hvw
    exact hw hv
  · exact hheld hvw

/-- The recall of a window ends with its last hold (R28, R35). -/
theorem RecallsBut.lastHoldRetired (h : RecallsBut w s) (hno : s.holders w = []) (x : Option SlotId) :
    RecallsLawful (s.lastHoldRetired w x) := by
  have hhold : ∀ v r, (s.lastHoldRetired w x).isHoldOn v r = s.isHoldOn v r := fun v r => by simp [State.isHoldOn]
  refine ⟨fun v hv => ?_, fun r hr => ?_⟩
  · have hvw : v ≠ w := fun he => by simp [he] at hv
    simp only [claim_lastHoldRetired, hvw, if_false, window_lastHoldRetired, false_and] at hv ⊢
    obtain ⟨hopen, hheld, hnone, hall⟩ := h.1 v hv
    refine ⟨hopen, ?_, hnone, fun r hr => ?_⟩
    · obtain ⟨q, hq⟩ := holders_ne_nil.mp (hheld hvw)
      exact holders_ne_nil.mpr ⟨q, by rwa [hhold]⟩
    · simpa using hall r (by rwa [hhold] at hr)
  · simp only [record_lastHoldRetired] at hr ⊢
    have hrw : (s.record r).window ≠ w := fun he => by
      have := holders_eq_nil.mp hno r
      simp [State.isHoldOn, hr, he] at this
    simpa [hrw] using h.2 r hr

theorem RecallsBut.followUps (h : RecallsBut w s) (hc : ClaimsLawful s) (x : Option SlotId) :
    RecallsLawful (s.followUps w true x) := by
  unfold State.followUps
  split
  · next hlast => exact (h.lastHoldRetired hlast.2 x).grantPass (hc.lastHoldRetired w x) w
  · next hlast => exact (h.lawful fun _ hno => hlast ⟨rfl, hno⟩).grantPass hc w

theorem RecallsLawful.placed {b : SlotId} (h : RecallsLawful s) (k : Placed w b s t) : RecallsLawful t := by
  obtain ⟨r, k⟩ := k.at
  exact h.of_one k.marker (fun v _ hv => (k.upgrader v).trans hv) (fun v => by rw [k.windows]) k.others
    (by simp [k.phase]) (by simp [k.not_hold]) (by simp [k.phase])

/-- Windows other than the one whose holds are recalled keep their recalls. -/
theorem RecallsLawful.of_recall {limit : BitVec 8} (h : RecallsLawful s)
    (k : ∀ r, t.record r = if s.isHoldOn w r = true then (s.record r).recall limit else s.record r)
    (hclaim : ∀ v, v ≠ w → t.claim v = s.claim v) (hwindow : ∀ v, v ≠ w → t.window v = s.window v)
    (hmark : (t.claim w).marker ≠ .idle →
      (t.window w).state = .opened ∧ s.holders w ≠ [] ∧ (t.claim w).upgrader = none)
    (hend : (t.claim w).marker ≠ .idle ∨ (t.window w).state = .draining) : RecallsLawful t := by
  have hhold : ∀ v r, t.isHoldOn v r = s.isHoldOn v r := fun v r => by
    rw [State.isHoldOn, State.isHoldOn, k]
    split
    · next hr => simp [(isHoldOn_iff.mp hr).1]
    · rfl
  have hheld : ∀ v, s.holders v ≠ [] → t.holders v ≠ [] := fun v hv => by
    obtain ⟨q, hq⟩ := holders_ne_nil.mp hv
    exact holders_ne_nil.mpr ⟨q, by rwa [hhold]⟩
  refine ⟨fun v hv => ?_, fun r hr => ?_⟩
  · by_cases hvw : v = w
    · subst hvw
      obtain ⟨hopen, hno, hnone⟩ := hmark hv
      refine ⟨hopen, hheld v hno, hnone, fun r hr => ?_⟩
      rw [hhold] at hr
      rw [k, if_pos hr, phase_recall]
    · rw [hclaim v hvw] at hv ⊢
      rw [hwindow v hvw]
      obtain ⟨hopen, hno, hnone, hall⟩ := h.1 v hv
      refine ⟨hopen, hheld v hno, hnone, fun r hr => ?_⟩
      rw [hhold] at hr
      rw [k]
      split
      · exact phase_recall ..
      · exact hall r hr
  · by_cases hrw : s.isHoldOn w r = true
    · rw [k, if_pos hrw, window_recall, (isHoldOn_iff.mp hrw).2]
      exact hend
    · rw [k, if_neg hrw] at hr ⊢
      have hne : (s.record r).window ≠ w := fun he => hrw (isHoldOn_iff.mpr ⟨by simp [hr], he⟩)
      rw [hclaim _ hne, hwindow _ hne]
      exact h.2 r hr

theorem RecallsLawful.markRecall (h : RecallsLawful s) (hopen : (s.window w).state = .opened)
    (hheld : s.holders w ≠ []) (b : Option SlotId) : RecallsLawful (s.markRecall w b) :=
  h.of_recall (record_markRecall s w b) (fun v hv => by simp [hv]) (fun v _ => by simp)
    (fun _ => ⟨by simpa using hopen, hheld, by simp⟩) (.inl (by simp))

end

/-! ### Both laws, change by change -/

/-- The laws of records, upgrades and recalls that hold together. -/
structure UpgradesAndRecalls (s : State) : Prop where
  claims : ClaimsLawful s
  placed : RecordsPlaced s
  upgrades : UpgradesHeld s
  recalls : RecallsLawful s

section
variable {s t : State}

/-- A hold that is not RECALLED stands on an OPEN window with no recall in progress (R28, R29). -/
theorem UpgradesAndRecalls.open_idle (h : UpgradesAndRecalls s) {r : RecordId}
    (hold : (s.record r).phase.isHold = true) (kept : (s.record r).phase ≠ .recalled) :
    (s.window (s.record r).window).state = .opened ∧ (s.claim (s.record r).window).marker = .idle :=
  ⟨h.placed.opened_of_hold hold kept, h.recalls.idle_of_hold (isHoldOn_iff.mpr ⟨hold, rfl⟩) kept⟩

theorem UpgradesAndRecalls.upgrades_change (h : UpgradesAndRecalls s) (k : Change s t) : UpgradesHeld t := by
  cases k with
  | quiet tables _ =>
    exact h.upgrades.of_kept (fun v u hu => by simpa only [State.claim, tables.claims] using hu) fun v r _ _ => by
      simp only [State.record, tables.records]
  | pass k => exact h.upgrades.passStep k
  | thin k _ => exact h.upgrades.thinned k
  | endHolds k x => exact (h.upgrades.thinned k).followUps (h.claims.thinned k) _ true x
  | @takeHold c w m r tag claimable _ =>
    refine h.upgrades.of_kept (fun v u hu => hu) fun v q _ hq => ?_
    have hqr : q ≠ r := fun he => ClaimPhase.ne_free_of_isHold (isHoldOn_iff.mp hq).1 (he ▸ claimable.free)
    simp [hqr]
  | @enqueue c w r m tag wait claimable =>
    refine h.upgrades.of_kept (fun v u hu => ?_) fun v q _ hq => ?_
    · by_cases hv : v = w <;> simpa [hv] using hu
    · have hqr : q ≠ r := fun he => ClaimPhase.ne_free_of_isHold (isHoldOn_iff.mp hq).1 (he ▸ claimable.free)
      simp [hqr]
  | @restart r m hold kept _ pending =>
    obtain ⟨hopen, hidle⟩ := h.open_idle hold kept
    refine h.upgrades.of_holds (fun v u hu => hu) fun v u q hu hq hslot hmode hk => ?_
    by_cases hqr : q = r
    · subst hqr
      have hm : m = .shared := by
        obtain rfl := (isHoldOn_iff.mp hq).2
        obtain hm | hm | hno := pending
        · exact hm.trans hmode
        · exact hm
        · exact absurd ⟨hopen, hidle, hslot ▸ hu⟩ hno
      simp [hm]
    · simpa [hqr, hmode, hk] using (isHoldOn_iff.mp hq).1
  | @setUpgrader w u holds =>
    intro v x hx
    by_cases hv : v = w
    · subst hv
      rw [State.claim_setClaim, if_pos rfl] at hx
      obtain ⟨r, hr, hmode, hk⟩ := holds x hx
      obtain ⟨hh, hw, hslot⟩ := holdOf_some hr
      exact ⟨r, isHoldOn_iff.mpr ⟨hh, hw⟩, hslot, hmode, hk⟩
    · rw [State.claim_setClaim, if_neg hv] at hx
      exact h.upgrades v x hx
  | @transfer w r q _ hold _ waiting _ =>
    obtain ⟨hthin, hq⟩ := transfer_thinned h.claims.waitLists hold waiting
    exact (h.upgrades.thinned hthin).grant (by rw [hq, waiting])
  | redefine => exact h.upgrades
  | @drain w u _ _ upgrader =>
    exact h.upgrades.of_recall (w := w) (by simpa using upgrader) (fun v hv => by simp [hv]) (record_drain s w u)
  | recallHeld => exact h.upgrades.markRecall none
  | recallFor _ _ _ k => exact (h.upgrades.markRecall _).placed k
  | recallUnheld _ _ _ k => exact (h.upgrades.placed k).grantPass (h.claims.placed k) _
  | reset _ claims _ => exact fun w u hu => by simp [claims, WindowClaims.cleared] at hu

theorem UpgradesAndRecalls.recalls_change (h : UpgradesAndRecalls s) (k : Change s t) : RecallsLawful t := by
  cases k with
  | quiet tables _ =>
    exact h.recalls.of_records (fun v => by simp only [State.claim, tables.claims])
      (fun v _ hv => by simpa only [State.claim, tables.claims] using hv)
      (fun r _ => by simp only [State.window, tables.windows])
      fun r => .inl (by simp only [State.record, tables.records])
  | pass k => exact h.recalls.passStep k
  | @thin w t k held =>
    refine (h.recalls.thinned k).lawful fun hm => ?_
    rw [ne_eq, k.marker_idle_iff] at hm
    obtain ⟨r, hr⟩ := holders_ne_nil.mp (h.recalls.1 w hm).2.1
    exact holders_ne_nil.mpr ⟨r, held r hr⟩
  | endHolds k x => exact (h.recalls.thinned k).followUps (h.claims.thinned k) x
  | @takeHold c w m r tag claimable atOnce =>
    have hidle := (grantableAtOnce_iff.mp atOnce).2.1
    exact h.recalls.of_one (r := r) (fun v => rfl) (fun v _ hv => hv) (fun v => rfl) (fun q hq => by simp [hq])
      (by simp) (by simp [claimable.free]) (fun _ => by simpa using hidle)
  | @enqueue c w r m tag wait claimable =>
    refine h.recalls.of_one (r := r) (fun v => ?_) (fun v _ hv => ?_) (fun v => rfl) (fun q hq => by simp [hq])
      (by simp) (by simp [claimable.free]) (by simp)
    · by_cases hv : v = w <;> simp [hv]
    · by_cases hvw : v = w
      · subst hvw
        simpa using hv
      · simpa [hvw] using hv
  | @restart r m hold kept _ _ =>
    have hidle := (h.open_idle hold kept).2
    exact h.recalls.of_one (r := r) (fun v => rfl) (fun v _ hv => hv) (fun v => rfl) (fun q hq => by simp [hq])
      (by simp) (fun _ => hidle) (fun _ => by simpa using hidle)
  | @setUpgrader w u holds =>
    refine h.recalls.of_records (fun v => ?_) (fun v hm hv => ?_) (fun r _ => rfl) fun r => .inl rfl
    · by_cases hv : v = w <;> simp [hv]
    · by_cases hvw : v = w
      · subst hvw
        rw [State.claim_setClaim, if_pos rfl]
        cases u with
        | none => rfl
        | some c =>
          obtain ⟨r, hr, -, hk⟩ := holds c rfl
          obtain ⟨hh, hw, -⟩ := holdOf_some hr
          exact absurd (h.recalls.idle_of_hold (isHoldOn_iff.mpr ⟨hh, hw⟩) hk) hm
      · simpa [hvw] using hv
  | @transfer w r q idle hold _ waiting window =>
    obtain ⟨hthin, hq⟩ := transfer_thinned h.claims.waitLists hold waiting
    have hidle := (hthin.marker_idle_iff w).mpr idle
    exact ((h.recalls.thinned hthin).lawful fun hm => absurd hidle hm).grant (by rw [hq, waiting])
      (by rw [hq, window, hidle])
  | @redefine w d unused _ =>
    refine h.recalls.of_records (fun v => rfl) (fun v _ hv => hv) (fun r hr => ?_) fun r => .inl rfl
    simp [h.placed.unused unused r hr]
  | @drain w u opened _ _ =>
    exact h.recalls.of_recall (record_drain s w u) (fun v hv => by simp [hv]) (fun v hv => by simp [hv])
      (fun hm => by simp at hm) (.inr (by simp))
  | recallHeld opened _ held => exact h.recalls.markRecall opened held none
  | recallFor opened _ held k => exact (h.recalls.markRecall opened held _).placed k
  | recallUnheld _ _ _ k => exact (h.recalls.placed k).grantPass (h.claims.placed k) _
  | reset records claims _ =>
    exact ⟨fun w hw => by simp [claims, WindowClaims.cleared] at hw, fun r hr => by simp [records] at hr⟩

/-- Every change keeps the laws of records, upgrades and recalls together. -/
theorem UpgradesAndRecalls.change (h : UpgradesAndRecalls s) (k : Change s t) : UpgradesAndRecalls t :=
  ⟨h.claims.change k, h.placed.change h.claims k, h.upgrades_change k, h.recalls_change k⟩

end

/-- Settles O58: each change of a step keeps both laws, with the laws of the Claim Table and R29. -/
theorem upgradesAndRecallsStayLawful : Obligations.UpgradesAndRecallsStayLawful := by
  unfold Obligations.UpgradesAndRecallsStayLawful
  intro s t hc hp hu hr e
  have ht : UpgradesAndRecalls t :=
    (step_changes hc e).keep .change ⟨hc, hp, (upgradersLawful_iff hc.oneEach).mp hu, hr⟩
  exact ⟨(upgradersLawful_iff ht.claims.oneEach).mpr ht.upgrades, ht.recalls⟩

end Sys2Proof.Machine
end

section
/-! SUPPORT. The beneficiary's record stands at the head of the window under recall (R21, R28, R96, R100). -/

namespace Sys2Proof.Machine

/-! ### The law, window by window -/

/-- Record `r` carries a beneficiary's flag for window `w`. -/
def State.Flagged (s : State) (w : WindowId) (r : RecordId) : Prop :=
  (s.record r).beneficiary = true ∧ (s.record r).window = w

/-- The law of the beneficiaries on one window. -/
structure FlagsAt (w : WindowId) (s : State) : Prop where
  flag : ∀ r, s.Flagged w r → (s.record r).phase = .waiting ∧ (s.claim w).waitList.head? = some r ∧
    (s.claim w).marker = .inProgress (some (s.record r).slot)
  named : ∀ b, (s.claim w).marker = .inProgress (some b) →
    ∃ r, s.Flagged w r ∧ (s.claim w).waitList.head? = some r ∧ (s.record r).slot = b

section
variable {s t : State} {v w : WindowId} {r : RecordId}

/-- The head of a wait list is a WAITING record on its window (R25). -/
theorem WaitListsLawful.head (h : WaitListsLawful s) (hr : (s.claim w).waitList.head? = some r) :
    (s.record r).phase = .waiting ∧ (s.record r).window = w :=
  ((h w).2 r).mp (List.mem_of_mem_head? hr)

theorem beneficiariesLawful_iff (h : WaitListsLawful s) : BeneficiariesLawful s ↔ ∀ w, FlagsAt w s := by
  constructor
  · rintro ⟨hflag, hnamed⟩ w
    refine ⟨?_, fun b hb => ?_⟩
    · rintro r ⟨hr, rfl⟩
      exact hflag r hr
    · obtain ⟨r, hhead, hslot, hr⟩ := hnamed w b hb
      exact ⟨r, ⟨hr, (h.head hhead).2⟩, hhead, hslot⟩
  · intro hw
    refine ⟨fun r hr => (hw _).flag r ⟨hr, rfl⟩, fun w b hb => ?_⟩
    obtain ⟨r, hr, hhead, hslot⟩ := (hw w).named b hb
    exact ⟨r, hhead, hslot, hr.1⟩

/-- No record is flagged on a window without a recall that names a beneficiary. -/
theorem FlagsAt.not_flagged (h : FlagsAt w s) (hm : ∀ b, (s.claim w).marker ≠ .inProgress (some b)) (r : RecordId) :
    ¬s.Flagged w r := fun hr => hm _ (h.flag r hr).2.2

theorem FlagsAt.not_flagged_of_idle (h : FlagsAt w s) (hm : (s.claim w).marker = .idle) (r : RecordId) :
    ¬s.Flagged w r := h.not_flagged (by simp [hm]) r

/-- Such a window without flagged records is lawful. -/
theorem FlagsAt.of_not_flagged (hr : ∀ r, ¬s.Flagged w r) (hm : ∀ b, (s.claim w).marker ≠ .inProgress (some b)) :
    FlagsAt w s := ⟨fun r h => absurd h (hr r), fun b h => absurd h (hm b)⟩

/-- The law survives where the marker stays, a flagged head stays at the head, and only records change that are flagged
neither before nor after. -/
theorem FlagsAt.of_same (h : FlagsAt w s) (hmarker : (t.claim w).marker = (s.claim w).marker)
    (hhead : ∀ r, (s.claim w).waitList.head? = some r → (t.claim w).waitList.head? = some r)
    (hrecord : ∀ r, t.record r = s.record r ∨ ¬s.Flagged w r ∧ ¬t.Flagged w r) : FlagsAt w t := by
  have same : ∀ r, s.Flagged w r ∨ t.Flagged w r → t.record r = s.record r := fun r hr =>
    (hrecord r).resolve_right fun hno => hr.elim hno.1 hno.2
  refine ⟨fun r hr => ?_, fun b hb => ?_⟩
  · have heq := same r (.inr hr)
    obtain ⟨hphase, hh, hm⟩ := h.flag r (by simpa only [State.Flagged, heq] using hr)
    exact ⟨heq ▸ hphase, hhead r hh, by rw [hmarker, hm, heq]⟩
  · obtain ⟨r, hr, hh, hslot⟩ := h.named b (hmarker ▸ hb)
    have heq := same r (.inl hr)
    exact ⟨r, by simpa only [State.Flagged, heq] using hr, hhead r hh, heq ▸ hslot⟩

/-- The same where record `r` alone changes, unflagged before and after or on another window. -/
theorem FlagsAt.of_one (h : FlagsAt w s) (hmarker : (t.claim w).marker = (s.claim w).marker)
    (hhead : ∀ r, (s.claim w).waitList.head? = some r → (t.claim w).waitList.head? = some r)
    (others : ∀ q, q ≠ r → t.record q = s.record q) (hs : ¬s.Flagged w r) (ht : ¬t.Flagged w r) : FlagsAt w t :=
  h.of_same hmarker hhead fun q => by
    by_cases hq : q = r
    · exact .inr (hq ▸ ⟨hs, ht⟩)
    · exact .inl (others q hq)

/-- A record that is not WAITING is not flagged. -/
theorem FlagsAt.not_flagged_of_phase (h : FlagsAt w s) (hr : (s.record r).phase ≠ .waiting) : ¬s.Flagged w r :=
  fun hf => hr (h.flag r hf).1

/-! ### Grant passes -/

/-- A grant on a window without recall touches no flag (R46). -/
theorem FlagsAt.grant (h : ∀ v, FlagsAt v s) (hidle : (s.claim (s.record r).window).marker = .idle) (v : WindowId) :
    FlagsAt v (s.grant r) := by
  by_cases hv : v = (s.record r).window
  · subst hv
    refine .of_not_flagged (fun q hq => ?_) fun b => by simp [hidle]
    have hqr : q ≠ r := fun he => by simp [State.Flagged, he] at hq
    exact (h _).not_flagged_of_idle hidle q (by simpa [State.Flagged, hqr] using hq)
  · exact (h v).of_one (r := r) (by simp [hv]) (by simp [hv]) (fun q hq => by simp [hq])
      (fun hf => hv hf.2.symm) (by simp [State.Flagged])

theorem FlagsAt.passStep (h : ∀ v, FlagsAt v s) (k : PassStep w s t) (v : WindowId) : FlagsAt v t := by
  cases k with
  | grantHead _ idle _ _ window _ => exact .grant h (window ▸ idle) v
  | @completeUpgrade r _ _ holders _ =>
    obtain ⟨hh, hw⟩ := isHoldOn_iff.mp (mem_holders.mp (by simp [holders] : r ∈ s.holders w))
    have hno : ¬s.Flagged v r := (h v).not_flagged_of_phase (ClaimPhase.ne_waiting_of_isHold hh)
    refine (h v).of_one (r := r) ?_ (fun q hq => ?_) (fun q hq => by simp [hq]) hno
      (by simpa [State.Flagged] using hno)
    · by_cases hv : v = w <;> simp [hv]
    · by_cases hv : v = w
      · subst hv
        simpa using hq
      · simpa [hv] using hq

theorem FlagsAt.grantPass (hc : ClaimsLawful s) (h : ∀ v, FlagsAt v s) (w v : WindowId) :
    FlagsAt v (s.grantPass w) :=
  (grantPass_keeps (P := fun t => ClaimsLawful t ∧ ∀ v, FlagsAt v t) (fun ht => ht.1.waitLists)
    (fun ht k => ⟨ht.1.passStep k, FlagsAt.passStep ht.2 k⟩) ⟨hc, h⟩).2 v

/-- The head of an OPEN, unheld window without recall or pending upgrade is granted first. -/
theorem grantPass_unheld_steps (hc : WaitListsLawful s) (hopen : (s.window w).state = .opened)
    (hidle : (s.claim w).marker = .idle) (hup : (s.claim w).upgrader = none) (hno : s.holders w = [])
    (hr : (s.claim w).waitList.head? = some r) :
    PassStep w s (s.grant r) ∧ Relation.ReflTransGen (PassStep w) (s.grant r) (s.grantPass w) := by
  obtain ⟨rest, hlist⟩ : ∃ rest, (s.claim w).waitList = r :: rest := ⟨_, List.eq_cons_of_mem_head? hr⟩
  obtain ⟨hnodup, hmem⟩ := hc w
  have hall : ∀ q, s.isHoldOn w q = true → (s.record q).mode = .shared := fun q hq => by
    simp [holders_eq_nil.mp hno q] at hq
  have hready : BatchReady w (r :: rest) s :=
    ⟨hopen, hidle, hlist, hlist ▸ hnodup, fun q hq => (hmem q).mp (hlist ▸ hq), hall⟩
  obtain ⟨hphase, hwindow⟩ := hready.waiting r List.mem_cons_self
  refine ⟨.grantHead hopen hidle hlist hphase hwindow fun q hq => by simp [holders_eq_nil.mp hno q] at hq, ?_⟩
  by_cases hmode : (s.record r).mode = .exclusive
  · have heq : s.grantPass w = s.grant r := by
      simp [State.grantPass, State.grantSteps, hopen, hidle, hup, hlist, hmode, hno]
    rw [heq]
  · have hshared : (s.record r).mode = .shared := by
      cases hm : (s.record r).mode with
      | shared => rfl
      | exclusive => exact absurd hm hmode
    have heq : s.grantPass w = (s.grant r).grantBatch rest := by
      simp [State.grantPass, State.grantSteps, hopen, hidle, hup, hlist, hshared, allShared_iff.mpr hall,
        State.grantBatch]
    rw [heq]
    exact grantBatch_steps rest _ (hready.grant hshared)

/-- A flagged head is granted by the pass, and its flag cleared, once its window's recall is over (R47, R97). -/
theorem FlagsAt.grantPass_head (hc : ClaimsLawful s) (hopen : (s.window w).state = .opened)
    (hidle : (s.claim w).marker = .idle) (hup : (s.claim w).upgrader = none) (hno : s.holders w = [])
    (hr : (s.claim w).waitList.head? = some r) (honly : ∀ q, s.Flagged w q → q = r)
    (h : ∀ v, v ≠ w → FlagsAt v s) (v : WindowId) : FlagsAt v (s.grantPass w) := by
  obtain ⟨hstep, hsteps⟩ := grantPass_unheld_steps hc.waitLists hopen hidle hup hno hr
  obtain ⟨-, hwindow⟩ := hc.waitLists.head hr
  have hgrant : ∀ v, FlagsAt v (s.grant r) := fun v => by
    by_cases hv : v = w
    · subst hv
      refine .of_not_flagged (fun q hq => ?_) fun b => by simp [hwindow, hidle]
      have hqr : q ≠ r := fun he => by simp [State.Flagged, he] at hq
      exact hqr (honly q (by simpa [State.Flagged, hqr] using hq))
    · exact (h v hv).of_one (r := r) (by simp [hwindow, hv]) (by simp [hwindow, hv]) (fun q hq => by simp [hq])
        (fun hf => hv (hf.2.symm.trans hwindow)) (by simp [State.Flagged])
  have keep : ∀ u, Relation.ReflTransGen (PassStep w) (s.grant r) u → ∀ v, FlagsAt v u := fun u hu => by
    induction hu with
    | refl => exact hgrant
    | tail _ hc ih => exact FlagsAt.passStep ih hc
  exact keep _ hsteps v

/-! ### Retirements -/

/-- The flag of a record that is retired goes with it, and the recall runs on without a beneficiary (R34, R100). -/
theorem FlagsAt.thinned (h : FlagsAt v s) (k : Thinned w s t) : FlagsAt v t := by
  have hback : ∀ r, t.Flagged v r → s.Flagged v r ∧
      (s.record r).RunsOn (s.window (s.record r).window).grace (t.record r) := fun r hr => by
    obtain ⟨hc, -⟩ | hrun := k.record r
    · simp [State.Flagged, hc] at hr
    · exact ⟨⟨hrun.beneficiary_eq ▸ hr.1, hrun.window_eq ▸ hr.2⟩, hrun⟩
  by_cases hgone : ∃ r, s.Flagged v r ∧ (t.record r).phase = .free
  · obtain ⟨r, hr, hfree⟩ := hgone
    obtain ⟨hphase, hhead, -⟩ := h.flag r hr
    have hv : v = w := by
      by_contra hv
      have hrun := k.elsewhere (r := r) fun hw => hv (hr.2.symm.trans hw)
      simp [hrun.free_iff.mp hfree] at hphase
    subst hv
    refine .of_not_flagged (fun q hq => ?_) fun b hb => ?_
    · obtain ⟨hq', hrun⟩ := hback q hq
      obtain ⟨hqphase, hqhead, -⟩ := h.flag q hq'
      obtain rfl : q = r := Option.some.inj (hqhead.symm.trans hhead)
      simp [hrun.free_iff.mp hfree] at hqphase
    · rw [k.marker, if_pos ⟨r, hphase, hr.2, hr.1, hfree⟩, dropBeneficiary_eq] at hb
      split at hb <;> simp at hb
  · have hmarker : (t.claim v).marker = (s.claim v).marker := by
      by_cases hv : v = w
      · subst hv
        exact k.marker.trans (if_neg fun ⟨r, _, hw, hb, hf⟩ => hgone ⟨r, ⟨hb, hw⟩, hf⟩)
      · rw [k.otherClaims v hv]
    have hrun : ∀ r, s.Flagged v r → (s.record r).RunsOn (s.window (s.record r).window).grace (t.record r) :=
      fun r hr => k.used fun hf => hgone ⟨r, hr, hf⟩
    have hhead : ∀ r, s.Flagged v r → (s.claim v).waitList.head? = some r → (t.claim v).waitList.head? = some r :=
      fun r hr hh => by
        by_cases hv : v = w
        · subst hv
          have hlist : (s.claim v).waitList = r :: _ := List.eq_cons_of_mem_head? hh
          have hkept : (t.record r).phase ≠ .free := fun hf => hgone ⟨r, hr, hf⟩
          rw [k.waitList, hlist]
          simp [hkept]
        · rwa [k.otherClaims v hv]
    refine ⟨fun r hr => ?_, fun b hb => ?_⟩
    · obtain ⟨hr', hrun⟩ := hback r hr
      obtain ⟨hphase, hh, hm⟩ := h.flag r hr'
      exact ⟨hrun.waiting_iff.mpr hphase, hhead r hr' hh, by rw [hmarker, hm, hrun.slot_eq]⟩
    · obtain ⟨r, hr, hh, hslot⟩ := h.named b (hmarker ▸ hb)
      have hrun := hrun r hr
      exact ⟨r, ⟨hrun.beneficiary_eq.trans hr.1, hrun.window_eq.trans hr.2⟩, hhead r hr hh,
        hrun.slot_eq.trans hslot⟩

/-- Where the last hold of a window is retired, the pass that follows the end of its recall grants the beneficiary
(R35, R47). -/
theorem FlagsAt.followUps (hc : ClaimsLawful s) (hbut : RecallsBut w s) (h : ∀ v, FlagsAt v s) (x : Option SlotId)
    (v : WindowId) : FlagsAt v (s.followUps w true x) := by
  unfold State.followUps
  split
  · next hlast =>
    have hno := hlast.2
    have hc' := hc.lastHoldRetired w x
    have helse : ∀ v, v ≠ w → FlagsAt v (s.lastHoldRetired w x) := fun v hv =>
      (h v).of_same (by simp [hv]) (by simp [hv]) fun r => .inl (by simp)
    by_cases hflag : ∃ r, s.Flagged w r
    · obtain ⟨r, hr⟩ := hflag
      obtain ⟨-, hhead, hm⟩ := (h w).flag r hr
      obtain ⟨hopen, -, hup, -⟩ := hbut.1 w (by simp [hm])
      refine .grantPass_head (r := r) hc' (by simp [hopen]) (by simp) (by simpa using hup) ?_ (by simpa using hhead)
        (fun q hq => ?_) helse v
      · exact (holders_congr (fun r => by simp) w).trans hno
      · have hq' : s.Flagged w q := by simpa [State.Flagged] using hq
        exact Option.some.inj (((h w).flag q hq').2.1.symm.trans hhead)
    · refine FlagsAt.grantPass hc' (fun v => ?_) w v
      by_cases hv : v = w
      · subst hv
        exact .of_not_flagged (fun r hr => hflag ⟨r, by simpa [State.Flagged] using hr⟩) (by simp)
      · exact helse v hv
  · exact .grantPass hc h w v

/-! ### Placing a beneficiary -/

theorem PlacedAt.flagged {b : SlotId} (k : PlacedAt w b r s t) : t.Flagged w r := ⟨k.beneficiary, k.window⟩

/-- Placing changes no flag of another window. -/
theorem PlacedAt.elsewhere {b : SlotId} (k : PlacedAt w b r s t) (hv : v ≠ w) (h : FlagsAt v s) : FlagsAt v t := by
  refine h.of_one (r := r) (by rw [k.otherClaims v hv]) (by simp [k.otherClaims v hv]) k.others (fun hf => ?_)
    fun hf => hv (hf.2.symm.trans k.window)
  obtain hfree | ⟨-, hw⟩ := k.before
  · have hphase := (h.flag r hf).1
    simp [hfree] at hphase
  · exact hv (hf.2.symm.trans hw)

/-- No hold is added or removed. -/
theorem PlacedAt.holders {b : SlotId} (k : PlacedAt w b r s t) (v : WindowId) : t.holders v = s.holders v := by
  refine List.filter_congr fun q _ => ?_
  by_cases hq : q = r
  · subst hq
    simp [State.isHoldOn, k.phase, k.not_hold]
  · simp only [State.isHoldOn, k.others q hq]

/-- On a window that had no flagged record, the placed record is the only one. -/
theorem PlacedAt.only {b : SlotId} (k : PlacedAt w b r s t) (hno : ∀ q, ¬s.Flagged w q) (q : RecordId)
    (hq : t.Flagged w q) : q = r := by
  by_contra hqr
  exact hno q (by simpa only [State.Flagged, k.others q hqr] using hq)

/-- The recall that names the beneficiary has its record at the head (R96). -/
theorem PlacedAt.flagsAt {b : SlotId} (k : PlacedAt w b r s t) (hno : ∀ q, ¬s.Flagged w q)
    (hm : (s.claim w).marker = .inProgress (some b)) : FlagsAt w t := by
  refine ⟨fun q hq => ?_, fun c hc => ⟨r, k.flagged, k.head, ?_⟩⟩
  · obtain rfl := k.only hno q hq
    exact ⟨k.phase, k.head, by rw [k.marker, hm, k.slot]⟩
  · rw [k.marker, hm] at hc
    cases hc
    exact k.slot

/-- Recalling a window's holds changes no flag, since a flagged record waits. -/
theorem FlagsAt.of_recall {limit : BitVec 8} (h : FlagsAt v s)
    (k : ∀ r, t.record r = if s.isHoldOn w r = true then (s.record r).recall limit else s.record r)
    (hclaim : v ≠ w → t.claim v = s.claim v) (hv : v ≠ w) : FlagsAt v t :=
  h.of_same (by rw [hclaim hv]) (by simp [hclaim hv]) fun r => by
    rw [k]
    split
    · next hh =>
      have hw := (isHoldOn_iff.mp hh).2
      have ht : (t.record r).window = w := by rw [k, if_pos hh, window_recall, hw]
      exact .inr ⟨fun hf => hv (hf.2.symm.trans hw), fun hf => hv (hf.2.symm.trans ht)⟩
    · exact .inl rfl

/-- Nor does it flag a record of the window itself. -/
theorem not_flagged_of_recall {limit : BitVec 8} (h : ∀ r, ¬s.Flagged w r)
    (k : ∀ r, t.record r = if s.isHoldOn w r = true then (s.record r).recall limit else s.record r) (r : RecordId) :
    ¬t.Flagged w r := fun hf => h r <| by
  simp only [State.Flagged, k] at hf
  split at hf
  · exact ⟨by simpa using hf.1, by simpa using hf.2⟩
  · exact hf

/-! ### Change by change -/

/-- Every change keeps the law of the beneficiaries, with the laws of records, upgrades and recalls (R21, R28). -/
theorem FlagsAt.change (hl : UpgradesAndRecalls s) (h : ∀ v, FlagsAt v s) (k : Change s t) (v : WindowId) :
    FlagsAt v t := by
  cases k with
  | quiet tables _ =>
    have hclaim : t.claim v = s.claim v := by simp only [State.claim, tables.claims]
    exact (h v).of_same (by rw [hclaim]) (by simp [hclaim]) fun r => .inl (by simp only [State.record, tables.records])
  | pass k => exact .passStep h k v
  | thin k _ => exact (h v).thinned k
  | endHolds k x =>
    exact .followUps (hl.claims.thinned k) (hl.recalls.thinned k) (fun v => (h v).thinned k) x v
  | @takeHold c w m r tag claimable _ =>
    exact (h v).of_one (r := r) rfl (fun q hq => hq) (fun q hq => by simp [hq])
      ((h v).not_flagged_of_phase (by simp [claimable.free])) (by simp [State.Flagged])
  | @enqueue c w r m tag wait claimable =>
    refine (h v).of_one (r := r) ?_ (fun q hq => ?_) (fun q hq => by simp [hq])
      ((h v).not_flagged_of_phase (by simp [claimable.free])) (by simp [State.Flagged])
    · by_cases hv : v = w <;> simp [hv]
    · by_cases hv : v = w
      · subst hv
        simp [hq]
      · simpa [hv] using hq
  | @restart r m hold _ _ _ =>
    have hno : ¬s.Flagged v r := (h v).not_flagged_of_phase (ClaimPhase.ne_waiting_of_isHold hold)
    exact (h v).of_one (r := r) rfl (fun q hq => hq) (fun q hq => by simp [hq]) hno
      (by simpa [State.Flagged] using hno)
  | @setUpgrader w u _ =>
    refine (h v).of_same ?_ (fun q hq => ?_) fun r => .inl rfl
    · by_cases hv : v = w <;> simp [hv]
    · by_cases hv : v = w
      · subst hv
        simpa using hq
      · simpa [hv] using hq
  | @transfer w r q idle hold _ waiting window =>
    obtain ⟨hthin, hq⟩ := transfer_thinned hl.claims.waitLists hold waiting
    have hidle := (hthin.marker_idle_iff w).mpr idle
    exact .grant (fun v => (h v).thinned hthin) (by rw [hq, window, hidle]) v
  | redefine => exact (h v).of_same rfl (fun q hq => hq) fun r => .inl rfl
  | @drain w u _ list _ =>
    by_cases hv : v = w
    · subst hv
      have hno : ∀ r, ¬s.Flagged v r := fun r hr => by simpa [list] using ((h v).flag r hr).2.1
      exact .of_not_flagged (not_flagged_of_recall hno (record_drain s v u)) (by simp)
    · exact (h v).of_recall (record_drain s w u) (fun hv => by simp [hv]) hv
  | @recallHeld w _ idle _ =>
    by_cases hv : v = w
    · subst hv
      exact .of_not_flagged (not_flagged_of_recall ((h v).not_flagged_of_idle idle) (record_markRecall s v none))
        (by simp)
    · exact (h v).of_recall (record_markRecall s w none) (fun hv => by simp [hv]) hv
  | @recallFor w b _ _ idle _ k =>
    obtain ⟨r, k⟩ := k.at
    by_cases hv : v = w
    · subst hv
      exact k.flagsAt (not_flagged_of_recall ((h v).not_flagged_of_idle idle) (record_markRecall s v _)) (by simp)
    · exact k.elsewhere hv ((h v).of_recall (record_markRecall s w _) (fun hv => by simp [hv]) hv)
  | @recallUnheld w b u opened idle unheld k =>
    have hup : (s.claim w).upgrader = none := by
      cases hu : (s.claim w).upgrader with
      | none => rfl
      | some x =>
        obtain ⟨r, hr, -⟩ := hl.upgrades w x hu
        exact absurd unheld (holders_ne_nil.mpr ⟨r, hr⟩)
    have hc := hl.claims.placed k
    obtain ⟨r, k⟩ := k.at
    exact .grantPass_head hc (by rw [k.windows, opened]) ((k.marker w).trans idle) ((k.upgrader w).trans hup)
      ((k.holders w).trans unheld) k.head (k.only ((h w).not_flagged_of_idle idle))
      (fun v hv => k.elsewhere hv (h v)) v
  | reset records claims _ =>
    exact .of_not_flagged (fun r hr => by simp [State.Flagged, records] at hr) (by simp [claims, WindowClaims.cleared])

end

/-- Settles O60: each change of a step keeps the law window by window, with the laws above. -/
theorem beneficiaryStandsAtTheHead : Obligations.BeneficiaryStandsAtTheHead := by
  unfold Obligations.BeneficiaryStandsAtTheHead
  intro s t hc hp hu hr _ hb e
  have ht : UpgradesAndRecalls t ∧ ∀ v, FlagsAt v t :=
    (step_changes hc e).keep (P := fun u => UpgradesAndRecalls u ∧ ∀ v, FlagsAt v u)
      (fun hu k => ⟨hu.1.change k, FlagsAt.change hu.1 hu.2 k⟩)
      ⟨⟨hc, hp, (upgradersLawful_iff hc.oneEach).mp hu, hr⟩, (beneficiariesLawful_iff hc.waitLists).mp hb⟩
  exact (beneficiariesLawful_iff ht.1.claims.waitLists).mpr ht.2

end Sys2Proof.Machine
end

section
/-! SUPPORT. Exit processing's first step: the slot's records are retired, window by window (R36). -/

namespace Sys2Proof.Machine

/-! ### What the procedures of one window leave alone elsewhere -/

/-- Nothing has changed on the windows other than `w`, nor any record that names another window. -/
structure SameOffWindow (w : WindowId) (s t : State) : Prop where
  windows : SameOtherWindows w s t
  records : ∀ r, (s.record r).window ≠ w → t.record r = s.record r

section
variable {s t u : State} {v w : WindowId} {r : RecordId} {n : SlotId}

theorem SameOffWindow.trans (h : SameOffWindow w s t) (k : SameOffWindow w t u) : SameOffWindow w s u :=
  ⟨⟨fun v hv => (k.windows.windows v hv).trans (h.windows.windows v hv),
    fun v hv => (k.windows.claims v hv).trans (h.windows.claims v hv)⟩,
    fun r hr => (k.records r (by rwa [h.records r hr])).trans (h.records r hr)⟩

theorem retire_off (hw : (s.record r).window = w) : SameOffWindow w s (s.retire r) :=
  ⟨⟨fun v _ => rfl, fun v hv => by simp [hw, hv]⟩, fun q hq => by
    have hqr : q ≠ r := fun he => hq (he ▸ hw)
    simp [hqr]⟩

theorem PassStep.off (k : PassStep w s t) : SameOffWindow w s t := by
  cases k with
  | @grantHead r rest _ _ _ _ window _ =>
    refine ⟨⟨fun v _ => by simp, fun v hv => by simp [window, hv]⟩, fun q hq => ?_⟩
    have hqr : q ≠ r := fun he => hq (he ▸ window)
    simp [hqr]
  | @completeUpgrade r _ _ holders _ =>
    obtain ⟨-, hw⟩ := isHoldOn_iff.mp (mem_holders.mp (by simp [holders] : r ∈ s.holders w))
    refine ⟨⟨fun v _ => by simp, fun v hv => by simp [hv]⟩, fun q hq => ?_⟩
    have hqr : q ≠ r := fun he => hq (he ▸ hw)
    simp [hqr]

theorem grantPass_off (h : ClaimsLawful s) (w : WindowId) : SameOffWindow w s (s.grantPass w) :=
  (grantPass_keeps (P := fun t => ClaimsLawful t ∧ SameOffWindow w s t) (fun ht => ht.1.waitLists)
    (fun ht k => ⟨ht.1.passStep k, ht.2.trans k.off⟩) ⟨h, ⟨⟨fun _ _ => rfl, fun _ _ => rfl⟩, fun _ _ => rfl⟩⟩).2

theorem followUps_off (h : ClaimsLawful s) (w : WindowId) (held : Bool) (x : Option SlotId) :
    SameOffWindow w s (s.followUps w held x) := by
  have hlast : SameOffWindow w s (s.lastHoldRetired w x) :=
    ⟨⟨fun v hv => by simp [hv], fun v hv => by simp [hv]⟩, fun r _ => by simp⟩
  unfold State.followUps
  split
  · exact hlast.trans (grantPass_off (h.lastHoldRetired w x) w)
  · exact grantPass_off h w

theorem exitWindow_off (h : ClaimsLawful s) (n : SlotId) (w : WindowId) : SameOffWindow w s (s.exitWindow n w) := by
  unfold State.exitWindow
  split
  · exact ⟨⟨fun _ _ => rfl, fun _ _ => rfl⟩, fun _ _ => rfl⟩
  · next r hr =>
    obtain ⟨hf, -, hw⟩ := recordOf_some hr
    unfold State.retireAlone
    rw [hw]
    exact (retire_off hw).trans (followUps_off (h.retire hf) w _ _)

/-! ### Nothing is posted to the exiting slot -/

theorem queue_post_of_ne {m : SlotId} (hn : n ≠ m) (x : Subject) (b : NoticeBody) :
    (s.post m x b).queue n = s.queue n := by
  simp [queue_post, hn]

/-- A grant goes to the slot of a record in use on the window. -/
theorem PassStep.queue_eq (k : PassStep w s t) (hno : s.recordOf n w = none) : t.queue n = s.queue n := by
  have hne : ∀ r, (s.record r).phase ≠ .free → (s.record r).window = w → n ≠ (s.record r).slot :=
    fun r hf hw hn => recordOf_none.mp hno r hf ⟨hn.symm, hw⟩
  cases k with
  | @grantHead r rest _ _ _ waiting window _ =>
    exact queue_post_of_ne (hne r (by simp [waiting]) window) _ _
  | @completeUpgrade r _ _ holders _ =>
    obtain ⟨hh, hw⟩ := isHoldOn_iff.mp (mem_holders.mp (by simp [holders] : r ∈ s.holders w))
    exact queue_post_of_ne (hne r (ClaimPhase.ne_free_of_isHold hh) hw) _ _

/-- A slot without a record on a window gets none by what keeps every record in use for its slot. -/
theorem UsedFrom.recordOf_none (h : UsedFrom s t) (hno : s.recordOf n w = none) : t.recordOf n w = none :=
  Machine.recordOf_none.mpr fun r hr ⟨hn, hw⟩ => by
    obtain ⟨hr', hslot, hwindow⟩ := h r hr
    exact Machine.recordOf_none.mp hno r hr' ⟨hslot.symm.trans hn, hwindow.symm.trans hw⟩

theorem queue_grantPass (h : ClaimsLawful s) (hno : s.recordOf n w = none) :
    (s.grantPass w).queue n = s.queue n :=
  (grantPass_keeps (P := fun t => ClaimsLawful t ∧ t.recordOf n w = none ∧ t.queue n = s.queue n)
    (fun ht => ht.1.waitLists)
    (fun ht k => ⟨ht.1.passStep k, k.usedFrom.recordOf_none ht.2.1, (k.queue_eq ht.2.1).trans ht.2.2⟩)
    ⟨h, hno, rfl⟩).2.2

/-- WINDOW_CLOSED is not posted to the slot whose exit retired the last hold (R13). -/
theorem queue_lastHoldRetired (s : State) (w : WindowId) (n : SlotId) :
    (s.lastHoldRetired w (some n)).queue n = s.queue n := by
  have hmaster : ∀ (u : State) (x : Subject) (b : NoticeBody),
      (u.postToMaster (some n) x b).queue n = u.queue n := fun u x b => by
    obtain ⟨h, -⟩ | ⟨m, -, hm, h, -⟩ := postToMaster_cases u (some n) x b
    · rw [h]
    · rw [h]
      exact queue_post_of_ne (fun he => hm (congrArg some he)) x b
  unfold State.lastHoldRetired
  split
  · rw [hmaster]
    rfl
  · rfl

theorem queue_exitWindow (h : ClaimsLawful s) (n : SlotId) (w : WindowId) :
    (s.exitWindow n w).queue n = s.queue n := by
  unfold State.exitWindow
  split
  · rfl
  · next r hr =>
    obtain ⟨hf, hslot, hw⟩ := recordOf_some hr
    have hc := h.retire hf
    have hno : (s.retire r).recordOf n w = none := recordOf_none.mpr fun q hq ⟨hqn, hqw⟩ => by
      have hqr : q ≠ r := fun he => hq (by simp [he])
      rw [record_retire, if_neg hqr] at hq hqn hqw
      exact hqr (h.oneEach.eq_of_same hq hf (hqn.trans hslot.symm) (hqw.trans hw.symm))
    unfold State.retireAlone State.followUps
    rw [hw]
    split
    · have hused : UsedFrom (s.retire r) ((s.retire r).lastHoldRetired w (some n)) := .of_records fun q => by simp
      exact (queue_grantPass (hc.lastHoldRetired w _) (hused.recordOf_none hno)).trans (queue_lastHoldRetired ..)
    · exact queue_grantPass hc hno

theorem queue_exitRecords (h : ClaimsLawful s) (n : SlotId) : (s.exitRecords n).queue n = s.queue n :=
  (foldl_keeps (P := fun t => ClaimsLawful t ∧ t.queue n = s.queue n)
    (fun _ w ht => ⟨ht.1.changes (exitWindow_changes n ht.1 w), (queue_exitWindow ht.1 n w).trans ht.2⟩)
    allWindows s ⟨h, rfl⟩).2

/-! ### Windows on which the slot has no record -/

/-- Such a window keeps its state, claim state and records (R36). -/
theorem exitRecords_off (h : ClaimsLawful s) (hno : s.recordOf n w = none) :
    (s.exitRecords n).window w = s.window w ∧ (s.exitRecords n).claim w = s.claim w ∧
      ∀ r, (s.record r).window = w → (s.exitRecords n).record r = s.record r := by
  have keep := foldl_keeps
    (P := fun t => ClaimsLawful t ∧ t.recordOf n w = none ∧ t.window w = s.window w ∧ t.claim w = s.claim w ∧
      ∀ r, (s.record r).window = w → t.record r = s.record r)
    (f := fun t v => t.exitWindow n v) (fun t v ht => ?_) allWindows s ⟨h, hno, rfl, rfl, fun _ _ => rfl⟩
  · exact keep.2.2
  · obtain ⟨hc, hnone, hwindow, hclaim, hrecord⟩ := ht
    refine ⟨hc.changes (exitWindow_changes n hc v), (exitWindow_usedFrom hc n v).1.recordOf_none hnone, ?_⟩
    by_cases hv : w = v
    · have heq : t.exitWindow n v = t := by simp only [State.exitWindow, hv ▸ hnone]
      rw [heq]
      exact ⟨hwindow, hclaim, hrecord⟩
    · have hoff := exitWindow_off hc n v
      refine ⟨(hoff.windows.windows w hv).trans hwindow, (hoff.windows.claims w hv).trans hclaim, fun r hr => ?_⟩
      rw [hoff.records r (by rwa [hrecord r hr, hr]), hrecord r hr]

end

/-- Settles O18: visit by visit, from the laws of the Claim Table. -/
theorem exitRetiresEveryRecord : Obligations.ExitRetiresEveryRecord := by
  unfold Obligations.ExitRetiresEveryRecord
  refine ⟨fun s n => ⟨rfl, fun w => ⟨fun hno => ?_, fun r hr => ?_⟩⟩, fun s n h => ?_⟩
  · simp only [State.exitWindow, hno]
  · simp only [State.exitWindow, hr, State.retireAlone, (recordOf_some hr).2.2]
  · have hunused := exitRecords_unused h n
    refine ⟨hunused, ?_, queue_exitRecords h n, fun r hr => ?_, fun w hno => exitRecords_off h hno,
      exitRecords_beside s n⟩
    · simpa [State.inUse, mem_allRecords] using hunused
    · have hfree : ((s.exitRecords n).record r).phase = .free := by
        by_contra hf
        have hused := (foldl_exitWindow_unused n allWindows s h).1
        exact (hused r hf).1 hr
      rw [h.pool r hr, (h.changes (exitRecords_changes h n)).pool r hfree]

end Sys2Proof.Machine
end

section
/-! SUPPORT. The grant pass, step by step, and what it grants (R46 to R49). -/

namespace Sys2Proof.Machine

/-! ### Modes and holds -/

/-- A mode that is not EXCLUSIVE is SHARED. -/
theorem Mode.ne_exclusive_iff {m : Mode} : m ≠ .exclusive ↔ m = .shared := by
  cases m <;> simp

/-- A mode that is not SHARED is EXCLUSIVE. -/
theorem Mode.ne_shared_iff {m : Mode} : m ≠ .shared ↔ m = .exclusive := by
  cases m <;> simp

section
variable {s t : State} {w : WindowId} {q r : RecordId} {u : SlotId}

/-- An EXCLUSIVE hold on the window is a hold that is not SHARED. -/
theorem allShared_eq_false : s.allShared w = false ↔ ∃ q, s.isHoldOn w q = true ∧ (s.record q).mode = .exclusive := by
  rw [← Bool.not_eq_true, allShared_iff]
  push Not
  simp only [← Mode.ne_exclusive_iff, ne_eq, not_not]

/-- The sole hold on a window names the window. -/
theorem hold_of_sole (h : s.holders w = [r]) : s.isHoldOn w r = true := mem_holders.mp (by simp [h])

/-! ### One record granted (R47) -/

/-- Settles O14: the record that is granted keeps its slot, so no slot's count of records changes. -/
theorem grantingARecord : Obligations.GrantingARecord := by
  unfold Obligations.GrantingARecord
  rintro s r _ hwait rfl
  refine ⟨by simp, fun q hq => by simp [hq], grant_windows s r, ⟨fun v _ => by simp, fun v hv => by simp [hv]⟩,
    by simp, fun n => inUse_eq fun q => ?_, posted_post (State.setRecord ..) _ _ _, grant_beside s r⟩
  by_cases hq : q = r
  · subst hq
    simp [hwait]
  · simp [hq]

/-! ### The steps of a grant pass (R48) -/

/-- A grant pass runs its steps on an OPEN window with no recall in progress (R46). -/
theorem grantPass_of_open (ho : (s.window w).state = .opened) (hk : (s.claim w).marker = .idle) :
    s.grantPass w = s.grantSteps w := if_pos ⟨ho, hk⟩

/-- It runs on no other (R46). -/
theorem grantPass_of_not_open (h : (s.window w).state ≠ .opened ∨ (s.claim w).marker ≠ .idle) :
    s.grantPass w = s := if_neg fun hp => h.elim (· hp.1) (· hp.2)

/-- Step 1: a pending upgrade whose slot is the sole holder completes. -/
theorem grantSteps_completes (hu : (s.claim w).upgrader = some u) (hh : s.holders w = [r])
    (hslot : (s.record r).slot = u) : s.grantSteps w = s.completeUpgrade w r := by
  simp [State.grantSteps, hu, hh, hslot]

/-- Step 2: with a hold of another slot on the window, a pending upgrade blocks the pass. -/
theorem grantSteps_blocked (hu : (s.claim w).upgrader = some u) (hq : s.isHoldOn w q = true)
    (hslot : (s.record q).slot ≠ u) : s.grantSteps w = s := by
  unfold State.grantSteps
  rw [hu]
  dsimp only
  split
  · next r hr =>
    obtain rfl : q = r := by simpa [hr] using mem_holders.mpr hq
    exact if_neg hslot
  · rfl

/-- Step 3: an EXCLUSIVE head is granted on a window without holds. -/
theorem grantSteps_exclusive {rest : List RecordId} (hu : (s.claim w).upgrader = none)
    (hl : (s.claim w).waitList = r :: rest) (hm : (s.record r).mode = .exclusive) (hh : s.holders w = []) :
    s.grantSteps w = s.grant r := by
  simp [State.grantSteps, hu, hl, hm, hh]

/-- An EXCLUSIVE head waits while there is a hold. -/
theorem grantSteps_exclusive_held {rest : List RecordId} (hu : (s.claim w).upgrader = none)
    (hl : (s.claim w).waitList = r :: rest) (hm : (s.record r).mode = .exclusive) (hh : s.holders w ≠ []) :
    s.grantSteps w = s := by
  simp [State.grantSteps, hu, hl, hm, hh]

/-- Step 4: a SHARED head and the SHARED records after it join the SHARED holds. -/
theorem grantSteps_shared {rest : List RecordId} (hu : (s.claim w).upgrader = none)
    (hl : (s.claim w).waitList = r :: rest) (hm : (s.record r).mode = .shared) (hh : s.allShared w = true) :
    s.grantSteps w = s.grantBatch (r :: rest) := by
  simp [State.grantSteps, hu, hl, hm, hh]

/-- A SHARED head waits while there is an EXCLUSIVE hold. -/
theorem grantSteps_shared_held {rest : List RecordId} (hu : (s.claim w).upgrader = none)
    (hl : (s.claim w).waitList = r :: rest) (hm : (s.record r).mode = .shared) (hh : s.allShared w = false) :
    s.grantSteps w = s := by
  simp [State.grantSteps, hu, hl, hm, hh]

/-- The records `l` that are SHARED, up to the first that is not. -/
def State.sharedFront (s : State) (l : List RecordId) : List RecordId :=
  l.takeWhile fun q => decide ((s.record q).mode = .shared)

/-- A grant leaves every record's mode, and so the SHARED front of a list. -/
theorem sharedFront_grant (l : List RecordId) : (s.grant r).sharedFront l = s.sharedFront l := by
  have hmode : ∀ q, ((s.grant r).record q).mode = (s.record q).mode := fun q => by
    by_cases hq : q = r <;> simp [hq]
  simp only [State.sharedFront, hmode]

/-- The batch of step 4 grants the SHARED front of the list, one by one. -/
theorem grantBatch_eq : ∀ (l : List RecordId) (s : State), s.grantBatch l = (s.sharedFront l).foldl State.grant s
  | [], _ => rfl
  | r :: l, s => by
    by_cases hm : (s.record r).mode = .shared
    · have hfront : s.sharedFront (r :: l) = r :: s.sharedFront l := List.takeWhile_cons_of_pos (by simp [hm])
      rw [hfront, List.foldl_cons, ← sharedFront_grant, ← grantBatch_eq l (s.grant r)]
      exact if_pos hm
    · have hfront : s.sharedFront (r :: l) = [] := List.takeWhile_cons_of_neg (by simp [hm])
      rw [hfront]
      exact if_neg hm

/-- The completed upgrade, with its notice to the upgrader (R48 step 1). -/
theorem completeUpgrade_posted (s : State) (w : WindowId) (r : RecordId) :
    Posted s (s.completeUpgrade w r) [((s.record r).slot, .window w, .granted .exclusive (s.record r).tag)] :=
  posted_post (State.setClaim ..) _ _ _

end

/-- Settles O15: by the pending upgrader, the head of the wait list, and the holds. -/
theorem grantPassSteps : Obligations.GrantPassSteps := by
  unfold Obligations.GrantPassSteps
  intro s w
  refine ⟨grantPass_of_not_open, fun ho hk => ?_⟩
  rw [grantPass_of_open ho hk]
  refine ⟨?_, fun u q => grantSteps_blocked, fun hu => ⟨fun hl => ?_, fun r rest hl => ⟨?_, ?_, ?_, ?_⟩⟩⟩
  · rintro _ r hu hh rfl
    obtain ⟨-, hw⟩ := isHoldOn_iff.mp (hold_of_sole hh)
    rw [grantSteps_completes hu hh rfl]
    exact ⟨by simp [hw], fun q hq => by simp [hq], completeUpgrade_windows .., ⟨fun v _ => by simp, fun v hv => by
      simp [hv]⟩, by simp, completeUpgrade_posted s w r, completeUpgrade_beside s w r⟩
  · rw [← grantPass_of_open ho hk, grantPass_of_empty hu hl]
  · exact grantSteps_exclusive hu hl
  · exact grantSteps_exclusive_held hu hl
  · intro hm hall
    exact (grantSteps_shared hu hl hm (allShared_iff.mpr hall)).trans (grantBatch_eq ..)
  · intro hm q hq hx
    exact grantSteps_shared_held hu hl hm (allShared_eq_false.mpr ⟨q, hq, hx⟩)

/-! ### What a grant pass grants (R47, R49) -/

/-- The front `granted` of window `w`'s wait list has been granted, and `rest` goes on waiting. -/
structure Granted (w : WindowId) (granted rest : List RecordId) (s t : State) : Prop where
  windows : t.windows = s.windows
  otherClaims : ∀ v, v ≠ w → t.claim v = s.claim v
  list : (s.claim w).waitList = granted ++ rest
  claim : t.claim w = { s.claim w with waitList := rest }
  record : ∀ r ∈ granted, t.record r =
    { s.record r with phase := .held, counter := (s.window w).lease, beneficiary := false }
  otherRecords : ∀ r, r ∉ granted → t.record r = s.record r

section
variable {s t u : State} {w : WindowId} {r : RecordId} {rest : List RecordId}

/-- Where nothing is granted, the wait list stays. -/
theorem Granted.refl (s : State) (w : WindowId) : Granted w [] (s.claim w).waitList s s :=
  ⟨rfl, fun _ _ => rfl, rfl, rfl, fun _ hr => (List.not_mem_nil hr).elim, fun _ _ => rfl⟩

/-- The head is granted, and then a front of what is left. -/
theorem Granted.cons {l : List RecordId} (hw : (s.record r).window = w) (hr : r ∉ l)
    (hlist : (s.claim w).waitList = r :: (l ++ rest)) (h : Granted w l rest (s.grant r) t) :
    Granted w (r :: l) rest s t where
  windows := h.windows.trans (grant_windows s r)
  otherClaims v hv := (h.otherClaims v hv).trans (by simp [hw, hv])
  list := hlist
  claim := h.claim.trans (by simp [hw])
  record := by
    refine List.forall_mem_cons.mpr ⟨?_, fun q hq => ?_⟩
    · rw [h.otherRecords r hr, record_grant, if_pos rfl, hw]
    · have hqr : q ≠ r := fun he => hr (he ▸ hq)
      rw [h.record q hq, record_grant, if_neg hqr, window_grant]
  otherRecords q hq := by
    obtain ⟨hqr, hq⟩ := List.ne_and_not_mem_of_not_mem_cons hq
    rw [h.otherRecords q hq, record_grant, if_neg hqr]

/-- Grants of the records of a front of the wait list, in order. -/
theorem foldl_granted : ∀ (l : List RecordId) (s : State), (l ++ rest).Nodup → (∀ r ∈ l, (s.record r).window = w) →
    (s.claim w).waitList = l ++ rest → Granted w l rest s (l.foldl State.grant s)
  | [], s, _, _, hlist => by
    obtain rfl : (s.claim w).waitList = rest := hlist
    exact .refl s w
  | r :: l, s, hnodup, hwindow, hlist => by
    obtain ⟨hr, hnodup⟩ := List.nodup_cons.mp hnodup
    obtain ⟨hw, hwindow⟩ := List.forall_mem_cons.mp hwindow
    refine .cons hw (fun hm => hr (List.mem_append_left _ hm)) hlist
      (foldl_granted l (s.grant r) hnodup (fun q hq => ?_) (by simp [hw, hlist]))
    have hqr : q ≠ r := fun he => hr (List.mem_append_left _ (he ▸ hq))
    simpa [hqr] using hwindow q hq

/-- The head alone is granted. -/
theorem grant_granted (h : WaitListsLawful s) (hlist : (s.claim w).waitList = r :: rest) :
    Granted w [r] rest s (s.grant r) := by
  obtain ⟨hnodup, hmem⟩ := h w
  exact foldl_granted [r] s (show (r :: rest).Nodup from hlist ▸ hnodup)
    (fun q hq => ((hmem q).mp (by simp [hlist, List.mem_singleton.mp hq])).2) hlist

/-- The SHARED front of the wait list is granted. -/
theorem grantBatch_granted (h : WaitListsLawful s) (w : WindowId) :
    Granted w (s.sharedFront (s.claim w).waitList)
      ((s.claim w).waitList.dropWhile fun q => decide ((s.record q).mode = .shared)) s
      (s.grantBatch (s.claim w).waitList) := by
  obtain ⟨hnodup, hmem⟩ := h w
  have hlist : (s.claim w).waitList = s.sharedFront (s.claim w).waitList ++
      (s.claim w).waitList.dropWhile fun q => decide ((s.record q).mode = .shared) :=
    List.takeWhile_append_dropWhile.symm
  rw [grantBatch_eq]
  exact foldl_granted _ s (hlist ▸ hnodup)
    (fun q hq => ((hmem q).mp ((List.takeWhile_sublist _).subset hq)).2) hlist

/-- What a grant pass on window `w` leaves: the upgrade of a sole holder completed, or a front of the wait list, maybe
none of it, granted (R48). -/
inductive PassResult (w : WindowId) (s : State) : State → Prop
  | completed {r : RecordId} (sole : s.holders w = [r]) : PassResult w s (s.completeUpgrade w r)
  | granted {l rest : List RecordId} {t : State} (h : Granted w l rest s t) : PassResult w s t

theorem PassResult.refl (s : State) (w : WindowId) : PassResult w s s := .granted (.refl s w)

theorem grantSteps_result (h : WaitListsLawful s) (w : WindowId) : PassResult w s (s.grantSteps w) := by
  unfold State.grantSteps
  split
  · split
    · next r hr =>
      split
      · exact .completed hr
      · exact .refl s w
    · exact .refl s w
  · split
    · exact .refl s w
    · next r rest hlist =>
      split
      · split
        · exact .granted (grant_granted h hlist)
        · exact .refl s w
      · split
        · exact hlist ▸ .granted (grantBatch_granted h w)
        · exact .refl s w

theorem grantPass_result (h : WaitListsLawful s) (w : WindowId) : PassResult w s (s.grantPass w) := by
  unfold State.grantPass
  split
  · exact grantSteps_result h w
  · exact .refl s w

end

/-- Settles O16: a grant pass grants a front of the wait list, or completes an upgrade, which grants no waiting claim. -/
theorem grantsFromHeadAlone : Obligations.GrantsFromHeadAlone := by
  unfold Obligations.GrantsFromHeadAlone
  intro s w h
  obtain ⟨hnodup, hmem⟩ := h.waitLists w
  have hresult := grantPass_result h.waitLists w
  generalize s.grantPass w = t at hresult
  cases hresult with
  | @completed r sole =>
    obtain ⟨hh, hw⟩ := isHoldOn_iff.mp (hold_of_sole sole)
    have other : ∀ q, q ≠ r → (s.completeUpgrade w r).record q = s.record q := fun q hq => by simp [hq]
    refine ⟨[], (s.claim w).waitList, rfl, by simp, by simp, fun q hq => other q fun he => ?_,
      fun q hq => other q fun he => ?_, ⟨fun v _ => by simp, fun v hv => by simp [hv]⟩, completeUpgrade_windows ..⟩
    · exact ClaimPhase.ne_waiting_of_isHold hh (he ▸ ((hmem q).mp hq).1)
    · exact hq.elim (fun hne => hne (he ▸ hw)) fun hf => ClaimPhase.ne_free_of_isHold hh (he ▸ hf)
  | @granted l rest _ k =>
    refine ⟨l, rest, k.list, by rw [k.claim], k.record, fun q hq => k.otherRecords q fun hql => ?_,
      fun q hq => k.otherRecords q fun hql => ?_,
      ⟨fun v _ => by simp only [State.window, k.windows], k.otherClaims⟩, k.windows⟩
    · exact (List.disjoint_of_nodup_append (k.list ▸ hnodup)) hql hq
    · obtain ⟨hp, hw⟩ := (hmem q).mp (k.list ▸ List.mem_append_left rest hql)
      exact hq.elim (fun hne => hne hw) fun hf => by simp [hp] at hf

end Sys2Proof.Machine
end

section
/-! SUPPORT. A grant pass settles its window (R42, R48), and what leaves a window settled. -/

namespace Sys2Proof.Machine

/-! ### The law, window by window -/

/-- The law of the settled passes on one window: on an OPEN window without recall a waiting head cannot join the holds,
and a pending upgrader is not the sole holder (R42, R48). -/
def SettledAt (w : WindowId) (s : State) : Prop :=
  (s.window w).state = .opened → (s.claim w).marker = .idle →
    (∀ r rest, (s.claim w).waitList = r :: rest →
      s.holders w ≠ [] ∧
        ((s.record r).mode = .exclusive ∨ s.allShared w = false ∨ (s.claim w).upgrader ≠ none)) ∧
    ∀ u, (s.claim w).upgrader = some u → ∃ r, s.isHoldOn w r = true ∧ (s.record r).slot ≠ u

theorem passesSettled_iff {s : State} : PassesSettled s ↔ ∀ w, SettledAt w s := .rfl

section
variable {s t u : State} {v w : WindowId} {q r : RecordId}

theorem SettledAt.of_not_open (h : (s.window w).state ≠ .opened ∨ (s.claim w).marker ≠ .idle) : SettledAt w s :=
  fun ho hk => h.elim (absurd ho) (absurd hk)

/-- A window without pending upgrade whose head, if any, cannot join its holds. -/
theorem SettledAt.of_none (hu : (s.claim w).upgrader = none)
    (h : ∀ r rest, (s.claim w).waitList = r :: rest →
      s.holders w ≠ [] ∧ ((s.record r).mode = .exclusive ∨ s.allShared w = false)) : SettledAt w s :=
  fun _ _ => ⟨fun r rest hl => (h r rest hl).imp_right fun hm => hm.imp_right .inl, fun u hx => by simp [hu] at hx⟩

/-- No waiting claim joins an EXCLUSIVE hold. -/
theorem SettledAt.of_exclusive (hu : (s.claim w).upgrader = none) (hr : s.isHoldOn w r = true)
    (hm : (s.record r).mode = .exclusive) : SettledAt w s :=
  .of_none hu fun _ _ _ => ⟨holders_ne_nil.mpr ⟨r, hr⟩, .inr (allShared_eq_false.mpr ⟨r, hr, hm⟩)⟩

/-- A pending upgrade with a hold of another slot on the window blocks every waiting claim. -/
theorem SettledAt.of_blocked {u : SlotId} (hu : (s.claim w).upgrader = some u) (hq : s.isHoldOn w q = true)
    (hslot : (s.record q).slot ≠ u) : SettledAt w s := fun _ _ =>
  ⟨fun _ _ _ => ⟨holders_ne_nil.mpr ⟨q, hq⟩, .inr (.inr (by simp [hu]))⟩, fun x hx =>
    ⟨q, hq, fun he => hslot (Option.some.inj (hu.symm.trans (hx.trans (congrArg some he.symm)))).symm⟩⟩

/-! ### The grant pass settles its window -/

/-- A window's only hold is its holder set. -/
theorem holders_eq_singleton (hr : s.isHoldOn w r = true) (honly : ∀ q, s.isHoldOn w q = true → q = r) :
    s.holders w = [r] := by
  refine List.perm_singleton.mp ((List.perm_ext_iff_of_nodup (holders_nodup s w) (List.nodup_singleton r)).mpr ?_)
  intro q
  rw [mem_holders, List.mem_singleton]
  exact ⟨honly q, fun he => he ▸ hr⟩

/-- With a pending upgrade: it completes, or a hold of another slot blocks it. -/
theorem settledAt_grantSteps_upgrade {c : SlotId} (hc : ClaimsLawful s) (hheld : UpgradesHeld s)
    (hu : (s.claim w).upgrader = some c) : SettledAt w (s.grantSteps w) := by
  by_cases hother : ∃ q, s.isHoldOn w q = true ∧ (s.record q).slot ≠ c
  · obtain ⟨q, hq, hslot⟩ := hother
    rw [grantSteps_blocked hu hq hslot]
    exact .of_blocked hu hq hslot
  · obtain ⟨r, hr, hslot, -, -⟩ := hheld w c hu
    have hown : ∀ q, s.isHoldOn w q = true → (s.record q).slot = c := fun q hq => by
      by_contra hne
      exact hother ⟨q, hq, hne⟩
    have hsole : s.holders w = [r] := holders_eq_singleton hr fun q hq =>
      Option.some.inj (((holdOf_eq_some hc.oneEach).mpr ⟨hq, hown q hq⟩).symm.trans
        ((holdOf_eq_some hc.oneEach).mpr ⟨hr, hslot⟩))
    rw [grantSteps_completes hu hsole hslot]
    exact .of_exclusive (r := r) (by simp) (by simpa [State.isHoldOn] using (isHoldOn_iff.mp hr).2) (by simp)

/-- A granted record is a hold on its window. -/
theorem Granted.hold {granted rest : List RecordId} (k : Granted w granted rest s t) (h : WaitListsLawful s)
    (hr : r ∈ granted) : t.isHoldOn w r = true := by
  have hw := (((h w).2 r).mp (k.list ▸ List.mem_append_left rest hr)).2
  simp [State.isHoldOn, k.record r hr, hw]

/-- A batch leaves an EXCLUSIVE head, which has to wait for the holds just granted. -/
theorem settledAt_grantBatch {rest : List RecordId} (h : WaitListsLawful s) (hu : (s.claim w).upgrader = none)
    (hl : (s.claim w).waitList = r :: rest) (hm : (s.record r).mode = .shared) :
    SettledAt w (s.grantBatch (s.claim w).waitList) := by
  have k := grantBatch_granted h w
  obtain ⟨hnodup, -⟩ := h w
  have hr : r ∈ s.sharedFront (s.claim w).waitList := by simp [State.sharedFront, hl, hm]
  refine .of_none (by rw [k.claim, hu]) fun q l hq => ⟨holders_ne_nil.mpr ⟨r, k.hold h hr⟩, .inl ?_⟩
  rw [k.claim] at hq
  have hhead := List.head?_dropWhile_not (fun q => decide ((s.record q).mode = .shared)) (s.claim w).waitList
  have hin : q ∈ (s.claim w).waitList.dropWhile fun q => decide ((s.record q).mode = .shared) := by
    simpa using congrArg (q ∈ ·) hq
  have hout : q ∉ s.sharedFront (s.claim w).waitList := fun hf =>
    List.disjoint_of_nodup_append (k.list ▸ hnodup) hf hin
  dsimp only at hq
  rw [hq] at hhead
  rw [k.otherRecords q hout]
  by_contra hne
  simp [Mode.ne_exclusive_iff.mp hne] at hhead

/-- Without a pending upgrade: the head or the SHARED front is granted, or the head cannot join. -/
theorem settledAt_grantSteps_list (h : WaitListsLawful s) (hu : (s.claim w).upgrader = none) :
    SettledAt w (s.grantSteps w) := by
  cases hl : (s.claim w).waitList with
  | nil =>
    have heq : s.grantSteps w = s := by simp [State.grantSteps, hu, hl]
    rw [heq]
    exact .of_none hu fun r rest hr => by simp [hl] at hr
  | cons r rest =>
    have head : ∀ {q l}, (s.claim w).waitList = q :: l → q = r := fun hq => (List.cons.inj (hq.symm.trans hl)).1
    cases hm : (s.record r).mode with
    | exclusive =>
      by_cases hh : s.holders w = []
      · have k := grant_granted h hl
        rw [grantSteps_exclusive hu hl hm hh]
        exact .of_exclusive (by rw [k.claim, hu]) (k.hold h (List.mem_singleton_self r)) (by simp [hm])
      · rw [grantSteps_exclusive_held hu hl hm hh]
        exact .of_none hu fun q l hq => ⟨hh, .inl (head hq ▸ hm)⟩
    | shared =>
      cases hall : s.allShared w with
      | true =>
        rw [grantSteps_shared hu hl hm hall, ← hl]
        exact settledAt_grantBatch h hu hl hm
      | false =>
        obtain ⟨q, hq, hx⟩ := allShared_eq_false.mp hall
        rw [grantSteps_shared_held hu hl hm hall]
        exact .of_exclusive hu hq hx

/-- After a grant pass its window is settled (R48). -/
theorem settledAt_grantPass (hc : ClaimsLawful s) (hheld : UpgradesHeld s) (w : WindowId) :
    SettledAt w (s.grantPass w) := by
  by_cases hopen : (s.window w).state = .opened ∧ (s.claim w).marker = .idle
  · rw [grantPass_of_open hopen.1 hopen.2]
    cases hu : (s.claim w).upgrader with
    | some c => exact settledAt_grantSteps_upgrade hc hheld hu
    | none => exact settledAt_grantSteps_list hc.waitLists hu
  · have hno := not_and_or.mp hopen
    rw [grantPass_of_not_open hno]
    exact .of_not_open hno

/-! ### Windows that stay as they are -/

/-- Window `v` has kept its state, its claim state and its holds, and the modes of its waiting claims; it may have got
holds. -/
structure KeptAt (v : WindowId) (s t : State) : Prop where
  state : (t.window v).state = (s.window v).state
  claim : t.claim v = s.claim v
  waiting : ∀ r ∈ (s.claim v).waitList, (t.record r).mode = (s.record r).mode
  holds : ∀ r, s.isHoldOn v r = true →
    t.isHoldOn v r = true ∧ (t.record r).mode = (s.record r).mode ∧ (t.record r).slot = (s.record r).slot

theorem KeptAt.trans (h : KeptAt v s t) (k : KeptAt v t u) : KeptAt v s u where
  state := k.state.trans h.state
  claim := k.claim.trans h.claim
  waiting r hr := (k.waiting r (h.claim ▸ hr)).trans (h.waiting r hr)
  holds r hr := by
    obtain ⟨ht, hmode, hslot⟩ := h.holds r hr
    obtain ⟨hu, hmode', hslot'⟩ := k.holds r ht
    exact ⟨hu, hmode'.trans hmode, hslot'.trans hslot⟩

/-- Such a window stays settled: a head that cannot join its holds cannot join more of them. -/
theorem SettledAt.kept (h : SettledAt v s) (k : KeptAt v s t) : SettledAt v t := fun ho hk => by
  rw [k.state] at ho
  rw [k.claim] at hk ⊢
  obtain ⟨hhead, hup⟩ := h ho hk
  refine ⟨fun r rest hl => ?_, fun u hu => ?_⟩
  · obtain ⟨hheld, hwhy⟩ := hhead r rest hl
    obtain ⟨q, hq⟩ := holders_ne_nil.mp hheld
    refine ⟨holders_ne_nil.mpr ⟨q, (k.holds q hq).1⟩, ?_⟩
    obtain hm | hall | hu := hwhy
    · exact .inl ((k.waiting r (by simp [hl])).trans hm)
    · obtain ⟨p, hp, hx⟩ := allShared_eq_false.mp hall
      obtain ⟨hp', hmode, -⟩ := k.holds p hp
      exact .inr (.inl (allShared_eq_false.mpr ⟨p, hp', hmode.trans hx⟩))
    · exact .inr (.inr hu)
  · obtain ⟨q, hq, hslot⟩ := hup u hu
    obtain ⟨hq', -, hs⟩ := k.holds q hq
    exact ⟨q, hq', hs ▸ hslot⟩

/-- Only record `r` changes, and it is FREE or names another window. -/
theorem KeptAt.of_one (h : WaitListsLawful s) (hstate : (t.window v).state = (s.window v).state)
    (hclaim : t.claim v = s.claim v) (others : ∀ q, q ≠ r → t.record q = s.record q)
    (hr : (s.record r).phase = .free ∨ (s.record r).window ≠ v) : KeptAt v s t := by
  have same : ∀ q, (s.record q).phase ≠ .free → (s.record q).window = v → t.record q = s.record q :=
    fun q hf hw => others q fun he => hr.elim (fun hfree => hf (he ▸ hfree)) fun hne => hne (he ▸ hw)
  refine ⟨hstate, hclaim, fun q hq => ?_, fun q hq => ?_⟩
  · obtain ⟨hp, hw⟩ := ((h v).2 q).mp hq
    rw [same q (by simp [hp]) hw]
  · obtain ⟨hh, hw⟩ := isHoldOn_iff.mp hq
    have heq := same q (ClaimPhase.ne_free_of_isHold hh) hw
    rw [isHoldOn_iff, heq]
    exact ⟨⟨hh, hw⟩, rfl, rfl⟩

theorem KeptAt.of_off (h : WaitListsLawful s) (k : SameOffWindow w s t) (hv : v ≠ w) : KeptAt v s t := by
  refine ⟨by rw [k.windows.windows v hv], k.windows.claims v hv, fun q hq => ?_, fun q hq => ?_⟩
  · rw [k.records q (((h v).2 q).mp hq |>.2 ▸ hv)]
  · have hw := (isHoldOn_iff.mp hq).2
    have heq := k.records q (hw ▸ hv)
    rw [isHoldOn_iff, heq, ← isHoldOn_iff]
    exact ⟨hq, rfl, rfl⟩

theorem KeptAt.of_tables (h : SameTables s t) (v : WindowId) : KeptAt v s t := by
  have hrecord : ∀ r, t.record r = s.record r := fun r => by simp only [State.record, h.records]
  exact ⟨by simp only [State.window, h.windows], by simp only [State.claim, h.claims], fun r _ => by rw [hrecord],
    fun r hr => ⟨by simpa only [State.isHoldOn, hrecord] using hr, by rw [hrecord], by rw [hrecord]⟩⟩

/-- Records that stay in use on a window keep it, where its claim state stays. -/
theorem KeptAt.of_runsOn (hstate : (t.window v).state = (s.window v).state) (hclaim : t.claim v = s.claim v)
    (hrun : ∀ r, (s.record r).RunsOn (s.window (s.record r).window).grace (t.record r) ∨ (s.record r).window ≠ v)
    (h : WaitListsLawful s) : KeptAt v s t := by
  refine ⟨hstate, hclaim, fun q hq => ?_, fun q hq => ?_⟩
  · exact ((hrun q).resolve_right (not_not.mpr (((h v).2 q).mp hq).2)).mode_eq
  · obtain ⟨hh, hw⟩ := isHoldOn_iff.mp hq
    have hrun := (hrun q).resolve_right (not_not.mpr hw)
    exact ⟨isHoldOn_iff.mpr ⟨hrun.isHold_eq.trans hh, hrun.window_eq.trans hw⟩, hrun.mode_eq, hrun.slot_eq⟩

/-- Retirements on a window keep the other windows. -/
theorem KeptAt.of_thinned (h : WaitListsLawful s) (k : Thinned w s t) (hv : v ≠ w) : KeptAt v s t := by
  refine .of_runsOn (by rw [k.window]) (k.otherClaims v hv) (fun r => ?_) h
  by_cases hw : (s.record r).window = v
  · exact .inl (k.elsewhere (hw ▸ hv))
  · exact .inr hw

theorem WindowClaims.eq_of_fields {k k' : WindowClaims} (hlist : k'.waitList = k.waitList)
    (hup : k'.upgrader = k.upgrader) (hmarker : k'.marker = k.marker) : k' = k := by
  cases k
  cases k'
  simp_all

/-- Where no record is retired, the window itself is kept too. -/
theorem KeptAt.of_thinned_used (h : WaitListsLawful s) (k : Thinned w s t)
    (hused : ∀ r, (s.record r).phase ≠ .free → (t.record r).phase ≠ .free)
    (hup : (t.claim w).upgrader = (s.claim w).upgrader) : KeptAt w s t := by
  have hlist : (t.claim w).waitList = (s.claim w).waitList := by
    rw [k.waitList]
    refine List.filter_eq_self.mpr fun r hr => decide_eq_true (hused r ?_)
    simp [(((h w).2 r).mp hr).1]
  have hmarker : (t.claim w).marker = (s.claim w).marker := k.marker.trans <| if_neg <| by
    rintro ⟨r, hp, -, -, hf⟩
    exact hused r (by simp [hp]) hf
  exact .of_runsOn (by rw [k.window]) (WindowClaims.eq_of_fields hlist hup hmarker)
    (fun r => .inl ((k.record r).resolve_left fun ⟨hc, hf, _⟩ => hused r hf (by simp [hc]))) h

end

/-! ### The laws together -/

/-- The laws of records, upgrades and recalls, with every window settled. -/
structure Settled (s : State) : Prop where
  laws : UpgradesAndRecalls s
  windows : ∀ w, SettledAt w s

section
variable {s t : State} {v w : WindowId} {r : RecordId}

theorem Settled.lists (h : Settled s) : WaitListsLawful s := h.laws.claims.waitLists

theorem Changes.laws (k : Changes s t) (h : UpgradesAndRecalls s) : UpgradesAndRecalls t := k.keep .change h

/-- Changes that touch window `w` alone and leave it settled. -/
theorem Settled.of_window (h : Settled s) (k : Changes s t) (hw : SettledAt w t)
    (hv : ∀ v, v ≠ w → KeptAt v s t) : Settled t := by
  refine ⟨k.laws h.laws, fun v => ?_⟩
  by_cases he : v = w
  · exact he ▸ hw
  · exact (h.windows v).kept (hv v he)

/-- Changes that keep every window. -/
theorem Settled.of_kept (h : Settled s) (k : Changes s t) (hv : ∀ v, KeptAt v s t) : Settled t :=
  ⟨k.laws h.laws, fun v => (h.windows v).kept (hv v)⟩

theorem Settled.of_tables (h : Settled s) (k : Changes s t) (ht : SameTables s t) : Settled t :=
  h.of_kept k (.of_tables ht)

theorem Settled.still (h : Settled s) (k : Still s t) : Settled t := h.of_tables (.of_still k) k.tables

/-- A grant pass on the window that changes have touched (R46). -/
theorem Settled.grantPass_of (h : Settled s) (k : Changes s t) (hv : ∀ v, v ≠ w → KeptAt v s t) :
    Settled (t.grantPass w) := by
  have ht := k.laws h.laws
  exact h.of_window (k.grantPass h.laws.claims w) (settledAt_grantPass ht.claims ht.upgrades w) fun v hne =>
    (hv v hne).trans (.of_off ht.claims.waitLists (grantPass_off ht.claims w) hne)

/-- The last hold's follow-up leaves the pending upgrades (R35). -/
theorem UpgradesHeld.lastHoldRetired (h : UpgradesHeld s) (w : WindowId) (x : Option SlotId) :
    UpgradesHeld (s.lastHoldRetired w x) := by
  refine h.of_kept (fun v u hu => ?_) fun v r _ _ => by simp
  by_cases hv : v = w
  · subst hv
    simpa using hu
  · simpa [hv] using hu

/-- The follow-ups end with a grant pass, which settles the window (R35). -/
theorem settledAt_followUps (hc : ClaimsLawful s) (hu : UpgradesHeld s) (w : WindowId) (held : Bool)
    (x : Option SlotId) : SettledAt w (s.followUps w held x) := by
  unfold State.followUps
  split
  · exact settledAt_grantPass (hc.lastHoldRetired w x) (hu.lastHoldRetired w x) w
  · exact settledAt_grantPass hc hu w

/-- Retirements on one window with their follow-ups; without the flag, no hold was retired (R35). -/
theorem Settled.followUps (h : Settled s) (k : Thinned w s t) {held : Bool}
    (hh : held = false → ∀ r, s.isHoldOn w r = true → t.isHoldOn w r = true) (x : Option SlotId) :
    Settled (t.followUps w held x) := by
  have hc := h.laws.claims.thinned k
  exact h.of_window (followUps_changes h.laws.claims k hh x)
    (settledAt_followUps hc (h.laws.upgrades.thinned k) w held x) fun v hv =>
      (KeptAt.of_thinned h.lists k hv).trans (.of_off hc.waitLists (followUps_off hc w held x) hv)

theorem Settled.retireAlone (h : Settled s) (hr : (s.record r).phase ≠ .free) (x : Option SlotId) :
    Settled (s.retireAlone r x) :=
  h.followUps (retire_thinned h.lists hr rfl) (fun hh q hq => isHoldOn_retire hh q hq) x

/-! ### Exit processing (R135) -/

theorem Settled.exitRecords (h : Settled s) (n : SlotId) : Settled (s.exitRecords n) := by
  refine foldl_keeps (fun t w ht => ?_) allWindows s h
  unfold State.exitWindow
  split
  · exact ht
  · next r hr => exact ht.retireAlone (recordOf_some hr).1 _

theorem leaveActive_tables (s : State) (n : SlotId) (reason : ExitReason) : SameTables s (s.leaveActive n reason) :=
  ⟨rfl, rfl, rfl⟩

theorem Settled.exit (h : Settled s) (n : SlotId) (reason : ExitReason) : Settled (s.exit n reason) := by
  have h1 : Settled ((s.exitRecords n).leaveActive n reason) := (h.exitRecords n).of_tables
    (leaveActive_changes reason fun _ => exitRecords_unused h.laws.claims n) (leaveActive_tables ..)
  have h3 := h1.still (exitPort_still _ n reason)
  unfold State.exit
  extract_lets s3 s4
  have h4 : Settled s4 := by
    unfold s4
    split
    · exact h3
    · exact h3.still (postToMaster_still ..)
  exact h4.still (exitRole_still ..)

/-! ### The ticks (R83, R134) -/

theorem Settled.tickWindow (h : Settled s) (w : WindowId) : Settled (s.tickWindow w) := by
  have hthin := countedOut_thinned h.lists w
  have hchanges := tickWindow_changes h.laws.claims w
  rw [tickWindow_eq] at hchanges ⊢
  split
  · exact h.followUps hthin (fun hno => countedOut_holds h.lists (of_decide_eq_false hno)) none
  · next hno =>
    rw [if_neg hno] at hchanges
    obtain ⟨-, hup, -, -⟩ := countedOut_claim h.lists w
    have hused : ∀ r, (s.record r).phase ≠ .free → ((s.countedOut w).record r).phase ≠ .free := fun r hf => by
      have hheld : (s.record r).window = w → (s.record r).counter = 1 → (s.record r).phase = .held := fun hw h1 => by
        by_contra hne
        exact hno ⟨r, mem_runningOut.mpr ⟨hf, hw, h1⟩, hne⟩
      rw [record_countedOut h.lists]
      split
      · exact hf
      · next hin =>
        split
        · next h1 => simp [hheld (not_not.mp (not_or.mp hin).1) h1]
        · exact hf
    refine h.of_kept hchanges fun v => ?_
    by_cases hv : v = w
    · subst hv
      refine .of_thinned_used h.lists hthin hused (hup.trans (if_neg ?_))
      rintro ⟨r, hr, -, hends⟩
      exact hno ⟨r, hr, hends.2⟩
    · exact .of_thinned h.lists hthin hv

/-- The expiry of a record other than a HELD one retires it (R84, R86, R87). -/
theorem expire_retired_thinned (h : WaitListsLawful s) (hf : (s.record r).phase ≠ .free)
    (hheld : (s.record r).phase ≠ .held) : Thinned (s.record r).window s (s.expire r) := by
  rw [expire_retired hf hheld]
  exact (retire_thinned h hf rfl).congr (post_still ..).tables (post_beside ..).slots

theorem Settled.lastTick (h : Settled s) (r : RecordId) {phase : ClaimPhase} (hphase : phase ≠ .free) :
    Settled (s.lastTick r phase) := by
  have hchanges := lastTick_changes h.laws.claims r hphase
  unfold State.lastTick at hchanges ⊢
  dsimp only at hchanges ⊢
  split
  · next hlast =>
    rw [if_pos hlast] at hchanges
    obtain ⟨-, rfl, -⟩ := hlast
    split
    · next hheld =>
      rw [if_pos hheld] at hchanges
      have hthin := expire_held_thinned h.lists hheld
      refine h.of_kept hchanges fun v => ?_
      by_cases hv : v = (s.record r).window
      · subst hv
        refine .of_thinned_used h.lists hthin (fun q hq => ?_) (by simp [claim_expire hphase, hheld])
        rw [record_expire hphase]
        split
        · simp [ClaimRecord.expired, hheld]
        · exact hq
      · exact .of_thinned h.lists hthin hv
    · next hheld =>
      refine h.followUps (expire_retired_thinned h.lists hphase hheld) (fun hno q hq => ?_) none
      rw [expire_retired hphase hheld]
      simpa [State.isHoldOn] using isHoldOn_retire hno q hq
  · exact h

theorem Settled.tickSlots (h : Settled s) : Settled s.tickSlots := by
  unfold State.tickSlots
  split
  · exact h
  · refine foldl_keeps (fun t n ht => ?_) allSlots s h
    unfold State.tickSlot
    split
    · split
      · exact ht.exit n .silent
      · exact ht.still (.setSlot rfl rfl)
    · exact ht

theorem Settled.lastSilence (h : Settled s) (n : SlotId) : Settled (s.lastSilence n) := by
  unfold State.lastSilence
  split
  · exact h.exit n .silent
  · exact h

/-! ### The lines -/

theorem Settled.rise (h : Settled s) (n : SlotId) : Settled (s.rise n) := by
  refine h.of_tables (rise_changes s n) ?_
  unfold State.rise
  split
  · exact ⟨(postToMaster_tables ..).windows, (postToMaster_tables ..).records, (postToMaster_tables ..).claims⟩
  · exact ⟨rfl, rfl, rfl⟩

/-- A slot that is not ACTIVE leaves no record behind when its standing changes. -/
theorem Settled.leaveActive (h : Settled s) {n : SlotId} (hn : (s.slot n).state ≠ .active) (reason : ExitReason) :
    Settled (s.leaveActive n reason) :=
  h.of_tables (leaveActive_changes reason fun ha => absurd ha hn) (leaveActive_tables ..)

theorem Settled.fall (h : Settled s) (n : SlotId) : Settled (s.fall n) := by
  unfold State.fall
  split
  · exact h.exit n .removed
  · next hn =>
    exact ((h.leaveActive (by simp [hn]) .removed).still (clearPort_still _ n)).still (reportSlotChange_still ..)
  · exact h

theorem Settled.slotReset (h : Settled s) (n : SlotId) : Settled (s.slotReset n) := by
  unfold State.slotReset
  split
  · exact h.exit n .reset
  · next hn =>
    exact ((h.leaveActive (by simp [hn]) .reset).still (clearPortAndParams_still _ n)).still
      (reportSlotChange_still ..)
  · exact h

/-- A reset leaves no waiting claim and no pending upgrade (R38). -/
theorem Settled.of_reset (h : Settled s) (k : Changes s t) (hclaims : ∀ w, t.claim w = .cleared) : Settled t :=
  ⟨k.laws h.laws, fun w => .of_none (by rw [hclaims]; rfl) fun r rest hl => by
    rw [hclaims] at hl
    cases hl⟩

/-! ### Cycles -/

/-- A hold that is renewed keeps its mode (R66, R121). -/
theorem Settled.renew (h : Settled s) (hold : (s.record r).phase.isHold = true)
    (kept : (s.record r).phase ≠ .recalled) : Settled (s.restartHold r (s.record r).mode) := by
  refine h.of_kept (.single (.restart hold kept (.inl rfl) (.inl rfl))) fun v =>
    ⟨rfl, rfl, fun q _ => ?_, fun q hq => ?_⟩
  · by_cases hqr : q = r <;> simp [hqr]
  · obtain ⟨hh, hw⟩ := isHoldOn_iff.mp hq
    by_cases hqr : q = r
    · subst hqr
      simp [State.isHoldOn, hw]
    · simp [State.isHoldOn, hqr, hh, hw]

theorem Settled.carryOut (h : Settled s) (n : SlotId) (addr : Word) (kind : AccessKind) (x : Verdict) :
    Settled (s.carryOut n addr kind x) := by
  cases x with
  | passHolder w r =>
    have h1 : Settled (s.renewByAccess w r) := by
      unfold State.renewByAccess
      split
      · next hr =>
        obtain ⟨hh, hk⟩ := ClaimPhase.isRenewable_iff.mp hr.2
        exact h.renew hh hk
      · exact h
    exact h1.still (.of_slots ⟨rfl, rfl, rfl⟩ rfl)
  | passForeign w => exact h.still (.of_slots ⟨rfl, rfl, rfl⟩ rfl)
  | refuse cause => exact (h.still (post_still ..)).still (.of_slots ⟨rfl, rfl, rfl⟩ rfl)
  | holdOff => exact h.still (.of_slots ⟨rfl, rfl, rfl⟩ rfl)

end

end Sys2Proof.Machine
end

section
/-! SUPPORT. Every command leaves every window settled, and so does every step (R42, R48). -/

namespace Sys2Proof.Machine

/-! ### Changes on one window -/

section
variable {s t : State} {v w : WindowId} {q r : RecordId}

theorem setWindow_off (s : State) (w : WindowId) (d : WindowRecord) : SameOffWindow w s (s.setWindow w d) :=
  ⟨⟨fun v hv => by simp [hv], fun _ _ => rfl⟩, fun _ _ => rfl⟩

theorem setClaim_off (s : State) (w : WindowId) (k : WindowClaims) : SameOffWindow w s (s.setClaim w k) :=
  ⟨⟨fun _ _ => rfl, fun v hv => by simp [hv]⟩, fun _ _ => rfl⟩

theorem markRecall_off (s : State) (w : WindowId) (b : Option SlotId) : SameOffWindow w s (s.markRecall w b) :=
  ⟨⟨fun v _ => by simp, fun v hv => by simp [hv]⟩, fun r hr => by
    rw [record_markRecall, if_neg fun hh => hr (isHoldOn_iff.mp hh).2]⟩

theorem KeptAt.of_placed {b : SlotId} (h : WaitListsLawful s) (k : Placed w b s t) (hv : v ≠ w) : KeptAt v s t := by
  obtain ⟨r, k⟩ := k.at
  exact .of_one (r := r) h (by rw [k.windows]) (k.otherClaims v hv) k.others
    (k.before.imp_right fun ⟨_, hw⟩ => hw ▸ hv.symm)

/-- A recall goes on while its beneficiary is placed (R96). -/
theorem Placed.marker_ne_idle {b : SlotId} (k : Placed w b s t) (h : (s.claim w).marker ≠ .idle) :
    (t.claim w).marker ≠ .idle := by
  obtain ⟨r, k⟩ := k.at
  rwa [k.marker]

/-- A hold that starts anew keeps the other windows. -/
theorem KeptAt.restartHold (h : WaitListsLawful s) (m : Mode) (hv : v ≠ (s.record r).window) :
    KeptAt v s (s.restartHold r m) :=
  .of_one (r := r) h rfl rfl (fun q hq => by simp [hq]) (.inr hv.symm)

/-- A claim that joins a wait list keeps the other windows (R45). -/
theorem KeptAt.enqueueClaim {c : SlotId} {m : Mode} {tag : BitVec 8} {wait : Ticks} (h : WaitListsLawful s)
    (hr : (s.record r).phase = .free) (hv : v ≠ w) : KeptAt v s (s.enqueueClaim c w m tag wait r) :=
  .of_one (r := r) h rfl (by simp [hv]) (fun q hq => by simp [hq]) (.inl hr)

/-- A settled window with a sole holder has no pending upgrade (R48 step 1). -/
theorem Settled.no_upgrade_of_sole (h : Settled s) (hh : s.holders w = [r]) (ho : (s.window w).state = .opened)
    (hk : (s.claim w).marker = .idle) : (s.claim w).upgrader = none := by
  have sole : ∀ q, s.isHoldOn w q = true → q = r := fun q hq => by simpa [hh] using mem_holders.mpr hq
  cases hu : (s.claim w).upgrader with
  | none => rfl
  | some c =>
    obtain ⟨q, hq, hslot⟩ := (h.windows w ho hk).2 c hu
    obtain ⟨p, hp, hps, -⟩ := h.laws.upgrades w c hu
    obtain rfl := sole q hq
    obtain rfl := sole p hp
    exact absurd hps hslot

/-- A window with an EXCLUSIVE hold has no pending upgrade (R26, R27). -/
theorem UpgradesAndRecalls.no_upgrade_of_exclusive (h : UpgradesAndRecalls s) (hr : s.isHoldOn w r = true)
    (hm : (s.record r).mode = .exclusive) : (s.claim w).upgrader = none := by
  cases hu : (s.claim w).upgrader with
  | none => rfl
  | some c =>
    obtain ⟨hh, hw⟩ := isHoldOn_iff.mp hr
    obtain ⟨q, hq, -, hshared, -⟩ := h.upgrades w c hu
    obtain ⟨hqh, hqw⟩ := isHoldOn_iff.mp hq
    have hqr : q ≠ r := fun he => by simp [he, hm] at hshared
    have := (h.claims.holders q r hqr hqh hh (hqw.trans hw.symm)).2
    simp [hm] at this

/-- TRANSFER of an EXCLUSIVE hold to an EXCLUSIVE claim leaves an EXCLUSIVE hold, which no waiting claim joins (R74). -/
theorem Settled.transfer (h : Settled s) (idle : (s.claim w).marker = .idle) (hold : s.isHoldOn w r = true)
    (exclusive : (s.record r).mode = .exclusive) (waiting : (s.record q).phase = .waiting)
    (window : (s.record q).window = w) (hq : (s.record q).mode = .exclusive) :
    Settled ((s.retire r).grant q) := by
  obtain ⟨hh, hw⟩ := isHoldOn_iff.mp hold
  obtain ⟨hthin, hrecord⟩ := transfer_thinned h.lists hold waiting
  have hnone := h.laws.no_upgrade_of_exclusive hold exclusive
  refine h.of_window (w := w) (.single (.transfer idle hold exclusive waiting window))
    (.of_exclusive (r := q) ?_ ?_ ?_) fun v hv =>
      (KeptAt.of_thinned h.lists hthin hv).trans
        (.of_one (r := q) (h.lists.thinned hthin) (by simp) ?_ (fun p hp => by simp [hp]) ?_)
  · simp [hrecord, window, hw, leave_hold hh, hnone]
  · simp [State.isHoldOn, hrecord, window]
  · simp [hrecord, hq]
  · simp [hrecord, window, hv]
  · exact .inr (by rw [hrecord, window]; exact hv.symm)

/-- An OPEN window that has no holds has no waiting claims either (R42). -/
theorem Settled.waitList_of_unheld (h : Settled s) (ho : (s.window w).state = .opened) (hh : s.holders w = []) :
    (s.claim w).waitList = [] := by
  have hk : (s.claim w).marker = .idle := by
    by_contra hm
    exact (h.laws.recalls.1 w hm).2.1 hh
  cases hl : (s.claim w).waitList with
  | nil => rfl
  | cons r rest => exact absurd hh ((h.windows w ho hk).1 r rest hl).1

/-- CLOSE leaves the window CLOSED or DRAINING, and no other touched (R102, R103). -/
theorem Settled.closeOpen (h : Settled s) (ho : (s.window w).state = .opened) : Settled (s.closeOpen w) := by
  have hchanges := closeOpen_changes h.laws.claims ho
  by_cases hh : s.holders w = []
  · have k := closeOpen_unheld (h.waitList_of_unheld ho hh) hh
    exact h.of_window hchanges (.of_not_open (.inl (by simp [k.window]))) fun v hv =>
      .of_off h.lists ⟨k.others, fun r _ => by simp only [State.record, k.records]⟩ hv
  · have k := closeOpen_held h.lists hh
    exact h.of_window hchanges (.of_not_open (.inl (by simp [k.window]))) fun v hv =>
      .of_off h.lists ⟨k.others, fun r hr => by rw [k.record, ClaimRecord.afterClose, if_pos hr]⟩ hv

/-- A definition that DEFINE writes leaves the window CLOSED (R6). -/
theorem definition_closed {e : CommandEntry} {d : WindowRecord} (h : e.definition = some d) : d.state = .closed := by
  obtain ⟨size, target, share, foreign, hsize, htarget, hshare, hforeign, hbase, hgrace, hlimit⟩ :=
    fields_of_definition h
  rw [definition_of_fields hsize htarget hshare hforeign hbase hgrace hlimit] at h
  cases h
  rfl

/-- An UNDEFINED or CLOSED window gets a definition, or is cleared (R6, R10). -/
theorem Settled.redefine {d : WindowRecord} (h : Settled s) (hbusy : (s.checkNotBusy w).1 = false) (hd : d.lawful)
    (hclosed : d.state ≠ .opened) : Settled (s.setWindow w d) := by
  simp only [State.checkNotBusy, Bool.or_eq_false_iff, decide_eq_false_iff_not] at hbusy
  exact h.of_window (.single (.redefine (.inl hbusy) (.inl hd))) (.of_not_open (.inl (by simpa using hclosed)))
    fun v hv => .of_off h.lists (setWindow_off s w d) hv

end

/-! ### The commands of the slots -/

section
variable {s : State} (c : SlotId) (e : CommandEntry)

theorem Settled.joinCommand (h : Settled s) : Settled (joinCommand c e s).1 :=
  answer_keeps (P := Settled) h fun _ =>
    (h.of_tables (t := s.setSlot c _) (setSlot_changes (by rfl) fun _ => .inl rfl) ⟨rfl, rfl, rfl⟩).still
      (reportSlotChange_still ..)

theorem Settled.leaveCommand (h : Settled s) : Settled (leaveCommand c e s).1 := by
  refine answer_keeps h fun _ => ?_
  dsimp only
  exact h.exit c .left

theorem Settled.takeMasterCommand (h : Settled s) : Settled (takeMasterCommand c e s).1 :=
  answer_keeps (P := Settled) h fun _ =>
    (h.still (t := s.setMaster (some c)) (.of_slots ⟨rfl, rfl, rfl⟩ rfl)).still (post_still ..)

theorem Settled.evictCommand (h : Settled s) : Settled (evictCommand c e s).1 := by
  refine answer_keeps h fun _ => ?_
  dsimp only
  exact h.exit (slotField e.param0) .evicted

theorem Settled.setQuotaCommand (h : Settled s) : Settled (setQuotaCommand c e s).1 :=
  h.of_tables (setQuotaCommand_changes c e) (answer_keeps (P := SameTables s) ⟨rfl, rfl, rfl⟩ fun _ => ⟨rfl, rfl, rfl⟩)

theorem Settled.setEligibleCommand (h : Settled s) : Settled (setEligibleCommand c e s).1 :=
  answer_keeps h fun _ => h.still (.of_slots ⟨rfl, rfl, rfl⟩ rfl)

theorem Settled.setTimingCommand (h : Settled s) : Settled (setTimingCommand c e s).1 := by
  refine answer_keeps h fun _ => ?_
  dsimp only
  have h1 : Settled { s with silenceLimit := e.silenceField } := h.still (.of_slots ⟨rfl, rfl, rfl⟩ rfl)
  exact (h1.still (reloadAllSilence_still _)).still (selectTick_still ..)

theorem Settled.handMasterCommand (h : Settled s) : Settled (handMasterCommand c e s).1 :=
  answer_keeps (P := Settled) h fun _ =>
    ((h.still (t := s.setMaster (some (slotField e.param0))) (.of_slots ⟨rfl, rfl, rfl⟩ rfl)).still
      (post_still ..)).still (post_still ..)

theorem Settled.queryWindowCommand (h : Settled s) : Settled (queryWindowCommand c e s).1 :=
  answer_keeps h fun _ => h

theorem Settled.querySlotCommand (h : Settled s) : Settled (querySlotCommand c e s).1 :=
  answer_keeps h fun _ => h

/-! ### The commands on claims and holds -/

theorem Settled.claimCommand (h : Settled s) : Settled (claimCommand c e s).1 := by
  refine answer_keeps h fun hcommon => ?_
  have ha : (s.slot c).state = .active := checkActive_eq_false.mp (hcommon _ (by simp))
  split
  · exact h
  · next m hm =>
    refine answer_keeps h fun hpass => ?_
    split
    · exact h
    · next r hr =>
      have hclaimable := claimable_of_claimChecks ha hpass hr
      unfold claimEffect
      extract_lets w s1
      split
      · next honce =>
        exact h.grantPass_of (.single (.takeHold e.tag hclaimable honce)) fun v _ =>
          .of_one (r := r) h.lists rfl rfl (fun q hq => by simp [hq]) (.inl hclaimable.free)
      · exact h.grantPass_of (.single (.enqueue m e.tag e.waitLimit hclaimable)) fun v hv =>
          .enqueueClaim h.lists hclaimable.free hv

theorem Settled.withdrawCommand (h : Settled s) : Settled (withdrawCommand c e s).1 := by
  refine answer_keeps h fun _ => ?_
  unfold withdrawEffect
  split
  · next r hr => exact h.retireAlone (by simp [(waitingOf_some hr).1]) none
  · exact h.grantPass_of (.single (.setUpgrader none (by simp))) fun v hv => .of_off h.lists (setClaim_off ..) hv

theorem Settled.releaseCommand (h : Settled s) : Settled (releaseCommand c e s).1 :=
  answer_keeps h fun _ => onHold_keeps_of h fun _ hr =>
    h.retireAlone (ClaimPhase.ne_free_of_isHold (holdOf_some hr).1) none

theorem Settled.renewCommand (h : Settled s) : Settled (renewCommand c e s).1 :=
  answer_keeps h fun hpass => onHold_keeps_of h fun _ hr =>
    h.renew (holdOf_some hr).1 (not_recalled_of_check hr (hpass _ (by simp)))

/-- UPGRADE makes the sole holder EXCLUSIVE, which no pending upgrade is in the way of, or notes the upgrade (R69). -/
theorem Settled.upgradeCommand (h : Settled s) : Settled (upgradeCommand c e s).1 := by
  refine answer_keeps h fun hpass => onHold_keeps_of h fun r hr => ?_
  obtain ⟨hh, hw, hslot⟩ := holdOf_some hr
  have hkept := not_recalled_of_check hr (hpass _ (by simp))
  have hmode := hpass (decide (s.holdMode c (windowField e.param0) ≠ some .shared), .notShared) (by simp)
  simp only [decide_eq_false_iff_not, not_not] at hmode
  unfold upgradeEffect
  extract_lets y
  split
  · next halone =>
    rw [← hw] at halone ⊢
    have hnone : (s.claim (s.record r).window).upgrader = none :=
      h.no_upgrade_of_sole halone (h.laws.open_idle hh hkept).1 (h.laws.open_idle hh hkept).2
    exact h.grantPass_of (.single (.restart hh hkept (.inr (.inr halone)) (.inr (.inr fun hup => by
      simp [hnone] at hup)))) fun v hv => .restartHold h.lists _ hv
  · split
    · exact h
    · refine h.grantPass_of (.single (.setUpgrader (some c) fun d hd => ?_)) fun v hv =>
        .of_off h.lists (setClaim_off ..) hv
      obtain rfl := Option.some.inj hd
      exact ⟨r, hr, mode_of_holdMode hr hmode, hkept⟩

theorem Settled.downgradeCommand (h : Settled s) : Settled (downgradeCommand c e s).1 := by
  refine answer_keeps h fun hpass => onHold_keeps_of h fun r hr => ?_
  obtain ⟨hh, hw, -⟩ := holdOf_some hr
  have hkept := not_recalled_of_check hr (hpass _ (by simp))
  exact h.grantPass_of (.single (.restart hh hkept (.inr (.inl rfl)) (.inr (.inl rfl)))) fun v hv =>
    .restartHold h.lists _ (hw ▸ hv)

/-- The record that TRANSFER grants is a WAITING EXCLUSIVE one on the window (R73 step 9). -/
theorem exclusiveWaiter_some {n : SlotId} {w : WindowId} {q : RecordId} (h : s.exclusiveWaiter n w = some q) :
    s.waitingOf n w = some q ∧ (s.record q).mode = .exclusive := by
  unfold State.exclusiveWaiter at h
  split at h
  · cases h
  · next p hp =>
    split at h
    · next hm =>
      cases h
      exact ⟨hp, hm⟩
    · cases h

theorem Settled.transferCommand (h : Settled s) : Settled (transferCommand c e s).1 := by
  refine answer_keeps h fun hpass => onHold_keeps_of h fun r hr => ?_
  obtain ⟨hh, hw, -⟩ := holdOf_some hr
  have hidle := hpass (decide ((s.claim (windowField e.param0)).marker ≠ .idle), .recallPending) (by simp)
  have hmode := hpass (decide (s.holdMode c (windowField e.param0) ≠ some .exclusive), .notExclusive) (by simp)
  simp only [decide_eq_false_iff_not, not_not] at hidle hmode
  unfold transferEffect
  split
  · exact h
  · next q hq =>
    obtain ⟨hwait, hx⟩ := exclusiveWaiter_some hq
    obtain ⟨hphase, -, hqw⟩ := waitingOf_some hwait
    exact h.transfer hidle (isHoldOn_iff.mpr ⟨hh, hw⟩) (mode_of_holdMode hr hmode) hphase hqw hx

/-! ### The commands of the master on windows -/

theorem Settled.defineCommand (h : Settled s) : Settled (defineCommand c e s).1 := by
  refine answer_keeps h fun _ => ?_
  split
  · exact h
  · next d hd =>
    refine answer_keeps h fun hpass => ?_
    exact h.redefine (hpass _ List.mem_cons_self) (definition_lawful hd) (by simp [definition_closed hd])

theorem Settled.undefineCommand (h : Settled s) : Settled (undefineCommand c e s).1 :=
  answer_keeps h fun hpass => h.redefine (hpass (s.checkNotBusy (windowField e.param0)) (by simp))
    WindowRecord.cleared_lawful (by simp [WindowRecord.cleared])

theorem Settled.openCommand (h : Settled s) : Settled (openCommand c e s).1 := by
  refine answer_keeps h fun _ => ?_
  show Settled (s.openEffect _)
  unfold State.openEffect
  split
  · next hc =>
    exact h.grantPass_of (.single (.redefine (.inl (by simp [hc])) (.inr (.of_state (by simp [hc]) (by decide)))))
      fun v hv => .of_off h.lists (setWindow_off ..) hv
  · exact h

theorem Settled.closeCommand (h : Settled s) : Settled (closeCommand c e s).1 := by
  refine answer_keeps h fun _ => ?_
  show Settled (s.closeEffect _)
  unfold State.closeEffect
  split
  · next ho => exact h.closeOpen ho
  · exact h

/-- RECALL of an unheld window ends with a grant pass; that of a held one leaves the window under recall (R95, R97). -/
theorem Settled.recallCommand (h : Settled s) : Settled (recallCommand c e s).1 := by
  refine answer_keeps h fun hpass => ?_
  have hopen := hpass (decide ((s.window (windowField e.param0)).state ≠ .opened), .windowClosed) (by simp)
  have hidle := hpass (decide ((s.claim (windowField e.param0)).marker ≠ .idle), .recallPending) (by simp)
  simp only [decide_eq_false_iff_not, not_not] at hopen hidle
  have hplace : ∀ b, e.beneficiary = some b → MayPlace s (windowField e.param0) b := fun b hb =>
    mayPlace_of_checks hopen hb fun p hp => hpass p (List.mem_append_right _ hp)
  have hmark : ∀ b v, v ≠ windowField e.param0 → KeptAt v s (s.markRecall (windowField e.param0) b) :=
    fun b v hv => .of_off h.lists (markRecall_off ..) hv
  unfold recallEffect
  split
  · next hno =>
    cases hb : e.beneficiary with
    | none => exact h.grantPass_of .refl fun v _ => .of_tables ⟨rfl, rfl, rfl⟩ v
    | some b =>
      have k := placeBeneficiary_placed (hplace b hb)
      have hchange : Changes s ((s.placeBeneficiary (windowField e.param0) b).1.grantPass _) :=
        .single (.recallUnheld hopen hidle hno k)
      have hc := h.laws.claims.placed k
      exact h.of_window hchange (settledAt_grantPass hc (h.laws.upgrades.placed k) _) fun v hv =>
        (KeptAt.of_placed h.lists k hv).trans (.of_off hc.waitLists (grantPass_off hc _) hv)
  · next hheld =>
    cases hb : e.beneficiary with
    | none =>
      exact h.of_window (t := s.markRecall _ none) (.single (.recallHeld hopen hidle hheld))
        (.of_not_open (.inr (by simp))) (hmark none)
    | some b =>
      have k := placeBeneficiary_placed ((hplace b hb).markRecall (some b))
      exact h.of_window (.single (.recallFor hopen hidle hheld k))
        (.of_not_open (.inr (k.marker_ne_idle (by simp)))) fun v hv =>
          (hmark (some b) v hv).trans (.of_placed (h.laws.claims.markRecall _ _).waitLists k hv)

end

/-! ### The step -/

section
variable {s t : State}

/-- The take of a command leaves every window settled if the command does. -/
theorem Settled.takeWhere (h : Settled s) (isOpcode : BitVec 8 → Bool)
    {f : SlotId → CommandEntry → State → State × Reply} (hf : ∀ {s} c e, Settled s → Settled (f c e s).1) :
    Settled (s.takeWhere isOpcode f) := by
  unfold State.takeWhere
  repeat' split
  · exact h
  · exact h
  · next c e _ _ =>
    have hpop : Settled (s.popCommand c) := h.still (.of_slots ⟨rfl, rfl, rfl⟩ rfl)
    exact (hf c e hpop).still (.of_slots ⟨rfl, rfl, rfl⟩ rfl)
  · exact h

/-- Each row of the table leaves every window settled. -/
theorem Settled.exec (h : Settled s) (i : Instr) (e : exec i s = .next t) : Settled t := by
  have port : ∀ (n : SlotId) {access : State → State}, (∀ s, Still s (access s)) → Settled (s.portCycle n access) :=
    fun n _ ha => h.still (portCycle_still s n ha)
  cases i with
  | join => exact of_next e (h.takeWhere _ Settled.joinCommand)
  | leave => exact of_next e (h.takeWhere _ Settled.leaveCommand)
  | claim => exact of_next e (h.takeWhere _ Settled.claimCommand)
  | withdraw => exact of_next e (h.takeWhere _ Settled.withdrawCommand)
  | release => exact of_next e (h.takeWhere _ Settled.releaseCommand)
  | renew => exact of_next e (h.takeWhere _ Settled.renewCommand)
  | upgrade => exact of_next e (h.takeWhere _ Settled.upgradeCommand)
  | downgrade => exact of_next e (h.takeWhere _ Settled.downgradeCommand)
  | transfer => exact of_next e (h.takeWhere _ Settled.transferCommand)
  | queryWindow => exact of_next e (h.takeWhere _ Settled.queryWindowCommand)
  | querySlot => exact of_next e (h.takeWhere _ Settled.querySlotCommand)
  | takeMaster => exact of_next e (h.takeWhere _ Settled.takeMasterCommand)
  | define => exact of_next e (h.takeWhere _ Settled.defineCommand)
  | undefine => exact of_next e (h.takeWhere _ Settled.undefineCommand)
  | openWindow => exact of_next e (h.takeWhere _ Settled.openCommand)
  | closeWindow => exact of_next e (h.takeWhere _ Settled.closeCommand)
  | recallWindow => exact of_next e (h.takeWhere _ Settled.recallCommand)
  | evict => exact of_next e (h.takeWhere _ Settled.evictCommand)
  | setQuota => exact of_next e (h.takeWhere _ Settled.setQuotaCommand)
  | setEligible => exact of_next e (h.takeWhere _ Settled.setEligibleCommand)
  | setTiming => exact of_next e (h.takeWhere _ Settled.setTimingCommand)
  | handMaster => exact of_next e (h.takeWhere _ Settled.handMasterCommand)
  | unknownOpcode => exact of_next e (h.takeWhere _ fun _ _ h => h)
  | respPop n _ => exact of_next e (port n fun _ => .of_slots ⟨rfl, rfl, rfl⟩ rfl)
  | notice0Read n => exact of_next e (port n fun _ => .of_slots ⟨rfl, rfl, rfl⟩ rfl)
  | noticePop n _ => exact of_next e (port n fun _ => .of_slots ⟨rfl, rfl, rfl⟩ rfl)
  | attnEnWrite n _ => exact of_next e (port n fun _ => .of_slots ⟨rfl, rfl, rfl⟩ rfl)
  | controlBlockWrite n addr width value =>
    refine of_next e ?_
    split
    · refine port n fun m => ?_
      split
      · exact writePort_still ..
      · exact .of_slots ⟨rfl, rfl, rfl⟩ rfl
    · exact h
  | controlBlockRead n addr width =>
    refine of_next e ?_
    split
    · refine port n fun m => ?_
      split
      · exact readPort_still ..
      · exact .of_slots ⟨rfl, rfl, rfl⟩ rfl
    · exact h
  | cycleCheck n addr kind _ =>
    refine of_next e ?_
    split
    · exact h
    · exact (h.still (reloadSilence_still s n)).carryOut ..
  | cycleEnd => exact of_next e (h.still (.of_slots ⟨rfl, rfl, rfl⟩ rfl))
  | tick =>
    refine of_next e ?_
    split
    · exact h
    · exact h.still (.of_slots ⟨rfl, rfl, rfl⟩ rfl)
  | claimTableTick =>
    refine of_next e ?_
    split
    · exact h
    · exact foldl_keeps (fun _ w ht => ht.tickWindow w) allWindows _ (h.still (.of_slots ⟨rfl, rfl, rfl⟩ rfl))
  | slotTableTick =>
    refine of_next e ?_
    split
    · exact h
    · exact Settled.tickSlots (h.still (.of_slots ⟨rfl, rfl, rfl⟩ rfl))
  | waitTimeout r => exact of_next e (h.lastTick r (by decide))
  | leaseExpiry r => exact of_next e (h.lastTick r (by decide))
  | graceExpiry r => exact of_next e (h.lastTick r (by decide))
  | recallLimitExpiry r => exact of_next e (h.lastTick r (by decide))
  | silenceExpiry n => exact of_next e (h.lastSilence n)
  | presRise n =>
    have h1 : Settled (s.setLine n true) := h.still (.of_slots ⟨rfl, rfl, rfl⟩ rfl)
    refine of_next e ?_
    split
    · exact h1
    · exact h1.rise n
  | presFall n =>
    have h1 : Settled (s.setLine n false) := h.still (.of_slots ⟨rfl, rfl, rfl⟩ rfl)
    refine of_next e ?_
    split
    · exact h1
    · exact h1.fall n
  | slotReset n =>
    refine of_next e ?_
    split
    · exact h
    · exact h.slotReset n
  | backplaneReset =>
    refine of_next e ?_
    split
    · exact h
    · exact h.of_reset (backplaneReset_changes s) (claim_backplaneReset s)
  | powerOnReset elig =>
    have hchanges : Changes s t := exec_changes h.laws.claims (.powerOnReset elig) e
    cases e
    exact h.of_reset hchanges (claim_powerOn s.presLines elig)
  | porAsserted => exact of_next e (h.still (.of_slots ⟨rfl, rfl, rfl⟩ rfl))

/-- Every step leaves every window settled. -/
theorem Settled.step (h : Settled s) (e : step s = .next t) : Settled t := by
  cases hp : s.pending with
  | nil =>
    rw [step_of_idle hp] at e
    exact of_next e (h.still (refclk_still s))
  | cons i rest =>
    rw [step_of_pending hp] at e
    exact Settled.exec (h.still (t := { s with pending := rest }) (.of_slots ⟨rfl, rfl, rfl⟩ rfl)) i e

end

/-- Settles O59: row by row, since a grant pass settles the window that an event has touched, and TRANSFER, CLOSE and
RECALL of a held window, which make none, leave nothing that one would grant. -/
theorem noGrantableWaiterIsLeft : Obligations.NoGrantableWaiterIsLeft := by
  unfold Obligations.NoGrantableWaiterIsLeft
  intro s t hc hp hu hr hs e
  have h : Settled s := ⟨⟨hc, hp, (upgradersLawful_iff hc.oneEach).mp hu, hr⟩, passesSettled_iff.mp hs⟩
  exact passesSettled_iff.mpr (h.step e).windows

end Sys2Proof.Machine
end

section
/-! SUPPORT. CLAIM and WITHDRAW (R39 to R45, R54 to R56). -/

namespace Sys2Proof.Machine

/-! ### Grant passes that grant nothing, or that name no other claimant -/

section
variable {s : State} {w : WindowId} {r : RecordId}

/-- A grant pass changes nothing on a settled window (R42, R48). -/
theorem grantPass_of_settled (h : SettledAt w s) : s.grantPass w = s := by
  by_cases hopen : (s.window w).state = .opened ∧ (s.claim w).marker = .idle
  · obtain ⟨ho, hk⟩ := hopen
    obtain ⟨hhead, hup⟩ := h ho hk
    cases hu : (s.claim w).upgrader with
    | some u =>
      obtain ⟨q, hq, hslot⟩ := hup u hu
      exact (grantPass_of_open ho hk).trans (grantSteps_blocked hu hq hslot)
    | none =>
      cases hl : (s.claim w).waitList with
      | nil => exact grantPass_of_empty hu hl
      | cons r rest =>
        obtain ⟨hheld, hwhy⟩ := hhead r rest hl
        rw [grantPass_of_open ho hk]
        cases hm : (s.record r).mode with
        | exclusive => exact grantSteps_exclusive_held hu hl hm hheld
        | shared => exact grantSteps_shared_held hu hl hm (by simpa [hm, hu] using hwhy)
  · exact grantPass_of_not_open (not_and_or.mp hopen)

/-- The second record is the first one's claim still: in use, of the same slot, window, mode and tag. -/
structure ClaimRecord.SameClaim (c c' : ClaimRecord) : Prop where
  used : c'.phase ≠ .free
  slot : c'.slot = c.slot
  window : c'.window = c.window
  mode : c'.mode = c.mode
  tag : c'.tag = c.tag

/-- A grant leaves every claim what it is (R47). -/
theorem ClaimRecord.SameClaim.grant {c : ClaimRecord} (h : c.SameClaim (s.record r)) (q : RecordId) :
    c.SameClaim ((s.grant q).record r) := by
  rw [record_grant]
  split
  · next hq =>
    subst hq
    exact ⟨by simp, h.slot, h.window, h.mode, h.tag⟩
  · exact h

/-- A grant pass leaves every WAITING claim what it is: it may be granted, but names its claimant still (R47). -/
theorem sameClaim_grantPass (hr : (s.record r).phase = .waiting) (w : WindowId) :
    (s.record r).SameClaim ((s.grantPass w).record r) := by
  have hself : (s.record r).SameClaim (s.record r) := ⟨by simp [hr], rfl, rfl, rfl, rfl⟩
  unfold State.grantPass State.grantSteps
  split
  · split
    · split
      · next q hq =>
        have hne : r ≠ q := fun he =>
          ClaimPhase.ne_waiting_of_isHold (isHoldOn_iff.mp (hold_of_sole hq)).1 (he ▸ hr)
        split
        · simpa [hne] using hself
        · exact hself
      · exact hself
    · split
      · exact hself
      · split
        · split
          · exact hself.grant _
          · exact hself
        · split
          · rw [grantBatch_eq]
            exact foldl_keeps (P := fun t => (s.record r).SameClaim (t.record r)) (fun _ q ht => ht.grant q) _ s hself
          · exact hself
  · exact hself

/-! ### The claim that is queued (R45) -/

/-- A claim that joins a wait list adds no hold. -/
theorem isHoldOn_enqueueClaim {c : SlotId} {m : Mode} {tag : BitVec 8} {wait : Ticks} {v : WindowId}
    (hr : (s.record r).phase = .free) (q : RecordId) :
    (s.enqueueClaim c w m tag wait r).isHoldOn v q = s.isHoldOn v q := by
  by_cases hq : q = r <;> simp [State.isHoldOn, hq, hr]

theorem holders_enqueueClaim {c : SlotId} {m : Mode} {tag : BitVec 8} {wait : Ticks} {v : WindowId}
    (hr : (s.record r).phase = .free) : (s.enqueueClaim c w m tag wait r).holders v = s.holders v :=
  List.filter_congr fun q _ => isHoldOn_enqueueClaim hr q

/-- The holds keep their records. -/
theorem record_enqueueClaim_of_hold {c : SlotId} {m : Mode} {tag : BitVec 8} {wait : Ticks} {v : WindowId}
    {q : RecordId} (hr : (s.record r).phase = .free) (hq : s.isHoldOn v q = true) :
    (s.enqueueClaim c w m tag wait r).record q = s.record q := by
  have hqr : q ≠ r := fun he => ClaimPhase.ne_free_of_isHold (isHoldOn_iff.mp hq).1 (he ▸ hr)
  simp [hqr]

/-- A claim that cannot be granted at once leaves its window settled as it joins the wait list (R42, R45). -/
theorem SettledAt.enqueueClaim {c : SlotId} {m : Mode} {tag : BitVec 8} {wait : Ticks} (h : SettledAt w s)
    (hlists : WaitListsLawful s) (hr : (s.record r).phase = .free) (hno : s.grantableAtOnce w m = false) :
    SettledAt w (s.enqueueClaim c w m tag wait r) := fun ho hk => by
  simp only [claim_enqueueClaim, if_true] at hk ⊢
  obtain ⟨hhead, hup⟩ := h ho hk
  have exclusive : ∀ q, s.isHoldOn w q = true → (s.record q).mode = .exclusive →
      (s.enqueueClaim c w m tag wait r).allShared w = false := fun q hq hx =>
    allShared_eq_false.mpr ⟨q, (isHoldOn_enqueueClaim hr q).trans hq, (record_enqueueClaim_of_hold hr hq).symm ▸ hx⟩
  rw [holders_enqueueClaim hr]
  refine ⟨fun q rest hl => ?_, fun u hu => ?_⟩
  · cases hlist : (s.claim w).waitList with
    | cons p l =>
      have hqr : p ≠ r := fun he => hlists.not_mem_of_free hr w (by simp [hlist, he])
      obtain rfl : p = q := (List.cons.inj ((congrArg (· ++ [r]) hlist).symm.trans hl)).1
      obtain ⟨hheld, hwhy⟩ := hhead p l hlist
      refine ⟨hheld, ?_⟩
      rw [record_enqueueClaim, if_neg hqr]
      refine hwhy.imp_right fun hwhy => hwhy.imp_left fun hall => ?_
      obtain ⟨q, hq, hx⟩ := allShared_eq_false.mp hall
      exact exclusive q hq hx
    | nil =>
      obtain rfl : r = q := (List.cons.inj ((congrArg (· ++ [r]) hlist).symm.trans hl)).1
      by_cases hu : (s.claim w).upgrader = none
      · have hjoin : ∃ q, s.isHoldOn w q = true ∧ ¬((s.record q).mode = .shared ∧ m = .shared) := by
          by_contra hall
          push Not at hall
          have hyes := grantableAtOnce_iff.mpr ⟨hlist, hk, hu, hall⟩
          simp [hno] at hyes
        obtain ⟨q, hq, hwhy⟩ := hjoin
        refine ⟨holders_ne_nil.mpr ⟨q, hq⟩, ?_⟩
        obtain hq' | hm := not_and_or.mp hwhy
        · exact .inr (.inl (exclusive q hq (Mode.ne_shared_iff.mp hq')))
        · exact .inl (by simpa using Mode.ne_shared_iff.mp hm)
      · obtain ⟨u, hu'⟩ := Option.ne_none_iff_exists'.mp hu
        obtain ⟨q, hq, -⟩ := hup u hu'
        exact ⟨holders_ne_nil.mpr ⟨q, hq⟩, .inr (.inr hu)⟩
  · obtain ⟨q, hq, hslot⟩ := hup u hu
    exact ⟨q, (isHoldOn_enqueueClaim hr q).trans hq, (record_enqueueClaim_of_hold hr hq).symm ▸ hslot⟩

/-- The queued claim stands at the tail of the wait list (R25, R45). -/
theorem position_enqueueClaim {c : SlotId} {m : Mode} {tag : BitVec 8} {wait : Ticks} (h : WaitListsLawful s)
    (hr : (s.record r).phase = .free) :
    (s.enqueueClaim c w m tag wait r).position w r = (s.claim w).waitList.length + 1 := by
  simp [State.position, List.idxOf_append_of_notMem (h.not_mem_of_free hr w)]

end

/-! ### The checks of CLAIM (R40) -/

section
variable {s : State} {c : SlotId} {e : CommandEntry} {w : WindowId} {m : Mode} {r : RecordId}

/-- The mode codes 0 and 3 name no mode (10.8). -/
theorem claimMode_none (h : e.param0.extractLsb' 8 2 = 0 ∨ e.param0.extractLsb' 8 2 = 3) : e.claimMode = none := by
  rcases h with h | h <;> simp [CommandEntry.claimMode, h]

/-- The mode codes 1 and 2 name SHARED and EXCLUSIVE (10.8). -/
theorem claimMode_shared (h : e.param0.extractLsb' 8 2 = 1) : e.claimMode = some .shared := by
  simp [CommandEntry.claimMode, h]

theorem claimMode_exclusive (h : e.param0.extractLsb' 8 2 = 2) : e.claimMode = some .exclusive := by
  simp [CommandEntry.claimMode, h]

theorem claimCommand_badParam (ha : (s.slot c).state = .active)
    (h : 32 ≤ (lowByte e.param0).toNat ∨ e.claimMode = none) :
    claimCommand c e s = (s, Reply.refusal .badParam) :=
  (answer_active ha).trans (answer_fail _ (by simpa [windowInRange_eq_false] using h))

/-- The first of CLAIM's checks that fails, in their order (R40 steps 4 to 11). -/
theorem firstRefusal_claimChecks (hw : NamesWindow e w) :
    firstRefusal (claimChecks c e m s) =
      if (s.window w).state = .undefined then some .noWindow
      else if (s.window w).state ≠ .opened then some .windowClosed
      else if m = .shared ∧ (s.window w).share ≠ .sharedAllowed then some .notSharable
      else if s.holdOf c w ≠ none then some .alreadyHeld
      else if s.waitingOf c w ≠ none then some .alreadyWaiting
      else if e.param0.getLsbD 12 = true ∧ s.grantableAtOnce w m = false then some .windowBusy
      else if (s.slot c).quota ≤ s.inUse c then some .quotaFull
      else if s.lowestFree = none then some .poolEmpty
      else none := by
  simp only [claimChecks, firstRefusal, State.checkDefined, windowField_of_names hw, WindowRecord.isDefined,
    State.quotaReached, CommandEntry.claimTry, flagBit, Bool.and_eq_true, Bool.not_eq_true', decide_eq_true_eq,
    decide_eq_false_iff_not, not_not, Option.isSome_iff_ne_none, Option.isNone_iff_eq_none]

/-- The checks of CLAIM are passed (R40). -/
theorem firstRefusal_claimChecks_none (hw : NamesWindow e w) (hopen : (s.window w).state = .opened)
    (hshare : m = .shared → (s.window w).share = .sharedAllowed) (hhold : s.holdOf c w = none)
    (hwait : s.waitingOf c w = none) (htry : e.param0.getLsbD 12 = true → s.grantableAtOnce w m = true)
    (hquota : s.inUse c < (s.slot c).quota) (hr : s.lowestFree = some r) :
    firstRefusal (claimChecks c e m s) = none := by
  rw [firstRefusal_claimChecks hw, if_neg (by simp [hopen]), if_neg (by simp [hopen]),
    if_neg fun h => h.2 (hshare h.1), if_neg (by simp [hhold]), if_neg (by simp [hwait]),
    if_neg fun h => by simp [htry h.1] at h, if_neg (not_le.mpr hquota), if_neg (by simp [hr])]

/-- A check of CLAIM that fails refuses it, and nothing changes (R165). -/
theorem claimCommand_refused {o : OutcomeCode} (ha : (s.slot c).state = .active) (hw : NamesWindow e w)
    (hm : e.claimMode = some m) (h : firstRefusal (claimChecks c e m s) = some o) :
    claimCommand c e s = (s, Reply.refusal o) := by
  unfold claimCommand
  rw [answer_active ha, answer_pass _ (by simp [windowInRange_of_names hw, hm]), answer_nil]
  simp only [hm, State.answer, h]

/-- A claim that passes the checks takes the lowest FREE record. -/
theorem claimCommand_passes (ha : (s.slot c).state = .active) (hw : NamesWindow e w) (hm : e.claimMode = some m)
    (h : firstRefusal (claimChecks c e m s) = none) (hr : s.lowestFree = some r) :
    claimCommand c e s = claimEffect c e m r s := by
  unfold claimCommand
  rw [answer_active ha, answer_pass _ (by simp [windowInRange_of_names hw, hm]), answer_nil]
  simp only [hm, State.answer, h, hr]

/-! ### The effect of CLAIM (R43, R45) -/

/-- A claim granted at once is a hold, and nothing is left that the grant pass would grant (R43). -/
theorem claimEffect_atOnce (hw : NamesWindow e w) (h : s.grantableAtOnce w m = true) :
    claimEffect c e m r s =
      (s.fillRecord r c w .held m e.tag (s.window w).lease false,
        Reply.success .ok (bitsAt 0 7 r.val ||| bitsAt 8 1 m.code) 0) := by
  obtain ⟨hlist, -, hup, -⟩ := grantableAtOnce_iff.mp h
  have hpass : s.claimAtOnce c w m e.tag r = s.fillRecord r c w .held m e.tag (s.window w).lease false :=
    grantPass_of_empty hup hlist
  simp only [claimEffect, windowField_of_names hw, h, if_true, hpass]

/-- Another claim is queued, and a grant pass follows (R45). -/
theorem claimEffect_queued (hw : NamesWindow e w) (h : s.grantableAtOnce w m = false) :
    claimEffect c e m r s =
      ((s.enqueueClaim c w m e.tag e.waitLimit r).grantPass w,
        Reply.success .queued (bitsAt 0 7 r.val ||| bitsAt 8 1 m.code |||
          bitsAt 16 4 ((s.enqueueClaim c w m e.tag e.waitLimit r).position w r)) 0) := by
  simp only [claimEffect, windowField_of_names hw, h, Bool.false_eq_true, if_false]

theorem claimEffect_beside (c : SlotId) (e : CommandEntry) (m : Mode) (r : RecordId) (s : State) :
    SameBesideClaims s (claimEffect c e m r s).1 := by
  unfold claimEffect
  extract_lets w s1
  split
  · exact (setRecord_beside ..).trans (grantPass_beside ..)
  · exact ((setRecord_beside ..).trans (setClaim_beside ..)).trans (grantPass_beside ..)

/-- Whether granted or queued, the record taken is the caller's claim. -/
theorem claimEffect_record (hw : NamesWindow e w) :
    (((claimEffect c e m r s).1.record r).phase ≠ .free ∧ ((claimEffect c e m r s).1.record r).slot = c ∧
      ((claimEffect c e m r s).1.record r).window = w ∧ ((claimEffect c e m r s).1.record r).mode = m ∧
      ((claimEffect c e m r s).1.record r).tag = e.tag) ∧
    (claimEffect c e m r s).2.outcome = if s.grantableAtOnce w m = true then .ok else .queued := by
  cases h : s.grantableAtOnce w m with
  | true => simp [claimEffect_atOnce hw h, Reply.success]
  | false =>
    rw [claimEffect_queued hw h]
    have k := sameClaim_grantPass (s := s.enqueueClaim c w m e.tag e.waitLimit r) (r := r) (by simp) w
    exact ⟨⟨k.used, by simp [k.slot], by simp [k.window], by simp [k.mode], by simp [k.tag]⟩, rfl⟩

end

/-- One check of a list taken apart: it fails and gives its refusal, or the checks after it decide. -/
theorem ite_of_firstRefusal {p Q : Prop} [Decidable p] {o : OutcomeCode} {first rest : Option OutcomeCode}
    {P : OutcomeCode → Prop} (refused : ∀ o, first = some o → P o) (h : first = if p then some o else rest)
    (next : ¬p → first = rest → Q) : if p then P o else Q := by
  split
  · next hp => exact refused o (h.trans (if_pos hp))
  · next hp => exact next hp (h.trans (if_neg hp))

/-- Settles O26: by the first check that fails, and the record that the effect fills in. -/
theorem claimChecksInOrder : Obligations.ClaimChecksInOrder := by
  unfold Obligations.ClaimChecksInOrder
  rintro s c e ⟨htake, ha⟩
  refine ⟨fun h => ⟨_, runCommand_of_takes htake claimCommand, onlyAnswered_of_command
    (claimCommand_badParam (s := s.popCommand c) ha (h.imp_right claimMode_none))⟩, fun w m hw hcode => ?_⟩
  have hm : e.claimMode = some m := by
    cases m with
    | shared => exact claimMode_shared hcode
    | exclusive => exact claimMode_exclusive hcode
  have hchecks := firstRefusal_claimChecks (s := s.popCommand c) (c := c) (m := m) hw
  have refused : ∀ o, firstRefusal (claimChecks c e m (s.popCommand c)) = some o →
      OnlyAnswered s (s.completeTake c e claimCommand) c e (Reply.refusal o) := fun _ h =>
    onlyAnswered_of_command (claimCommand_refused (s := s.popCommand c) ha hw hm h)
  refine ⟨s.completeTake c e claimCommand, runCommand_of_takes htake claimCommand, ?_⟩
  refine ite_of_firstRefusal refused hchecks fun _ h => ite_of_firstRefusal refused h fun _ h =>
    ite_of_firstRefusal refused h fun _ h => ite_of_firstRefusal refused h fun _ h =>
    ite_of_firstRefusal refused h fun _ h => ite_of_firstRefusal refused h fun _ h =>
    ite_of_firstRefusal refused h fun _ h => ite_of_firstRefusal refused h fun hfree hpass => ?_
  obtain ⟨r, hr⟩ := Option.ne_none_iff_exists'.mp hfree
  have heff := claimCommand_passes (s := s.popCommand c) ha hw hm hpass hr
  obtain ⟨⟨hused, hslot, hwindow, hmode, htag⟩, houtcome⟩ := claimEffect_record (s := s.popCommand c) (c := c) (m := m)
    (r := r) hw
  rw [State.completeTake, heff]
  exact ⟨r, _, hr, answeredInTables_of_beside e _ (claimEffect_beside c e m r _), houtcome, hused, hslot, hwindow, hmode,
    htag⟩

@[simp] theorem record_pushResponse (s : State) (c : SlotId) (e : CommandEntry) (y : Reply) (r : RecordId) :
    (s.pushResponse c e y).record r = s.record r := rfl

@[simp] theorem claim_pushResponse (s : State) (c : SlotId) (e : CommandEntry) (y : Reply) (w : WindowId) :
    (s.pushResponse c e y).claim w = s.claim w := rfl

/-- Settles O27: at once where the claim state lets it, and at the tail of the wait list otherwise, where the window
stays settled, so that the grant pass that follows grants nothing. -/
theorem claimTakesARecord : Obligations.ClaimTakesARecord := by
  unfold Obligations.ClaimTakesARecord
  rintro s c e w m r ⟨htake, ha⟩ hw hm hopen hshare hhold hwait hquota hr
  have hfree := lowestFree_some hr
  have hpass : (e.param0.getLsbD 12 = true → s.grantableAtOnce w m = true) →
      claimCommand c e (s.popCommand c) = claimEffect c e m r (s.popCommand c) := fun htry =>
    claimCommand_passes (s := s.popCommand c) ha hw hm
      (firstRefusal_claimChecks_none (s := s.popCommand c) hw hopen hshare hhold hwait htry hquota hr) hr
  have hrun := runCommand_of_takes htake claimCommand
  refine ⟨?_, fun honce => ?_, fun hno htry hsettled hlists => ?_⟩
  · rw [grantableAtOnce_iff]
    simp only [and_comm (a := m = .shared)]
  · rw [hpass fun _ => honce, claimEffect_atOnce (s := s.popCommand c) hw honce] at hrun
    exact ⟨_, hrun, answeredInTables_of_beside e _ (setRecord_beside ..), by simp, fun q hq => by
      simp [hq], rfl, rfl, rfl⟩
  · have hkept : SettledAt w ((s.popCommand c).enqueueClaim c w m e.tag e.waitLimit r) :=
      SettledAt.enqueueClaim (s := s.popCommand c) (hsettled w) hlists hfree hno
    rw [hpass fun h => absurd (htry.symm.trans h) (by decide), claimEffect_queued (s := s.popCommand c) hw hno,
      grantPass_of_settled hkept, position_enqueueClaim (s := s.popCommand c) hlists hfree] at hrun
    exact ⟨_, hrun, answeredInTables_of_beside e _ ((setRecord_beside ..).trans (setClaim_beside ..)),
      by simp [CommandEntry.waitLimit], fun q hq => by simp [hq], rfl,
      ⟨fun v _ => rfl, fun v hv => by simp [hv]⟩, by simp, rfl⟩

/-! ### WITHDRAW (R54 to R56) -/

section
variable {s : State} {c : SlotId} {e : CommandEntry} {w : WindowId} {r : RecordId}

/-- The checks of WITHDRAW up to the last one are passed (R54). -/
theorem withdrawCommand_defined (ha : (s.slot c).state = .active) (hw : NamesWindow e w)
    (hd : (s.window w).state ≠ .undefined) :
    withdrawCommand c e s =
      s.answer [((s.waitingOf c w).isNone && decide ((s.claim w).upgrader ≠ some c), .notWaiting)]
        (withdrawEffect c w s) := by
  unfold withdrawCommand
  rw [answer_active ha, answer_window hw, answer_defined hw hd, windowField_of_names hw]

/-- WITHDRAW of a waiting claim retires it, and a grant pass follows (R55). -/
theorem withdrawCommand_waiting (ha : (s.slot c).state = .active) (hw : NamesWindow e w)
    (hd : (s.window w).state ≠ .undefined) (hr : s.waitingOf c w = some r) :
    withdrawCommand c e s = ((s.retire r).grantPass w, Reply.success .ok (bitsAt 0 7 r.val) 0) := by
  obtain ⟨hphase, -, hwindow⟩ := waitingOf_some hr
  have halone : s.retireAlone r none = (s.retire r).grantPass w := by
    simp [State.retireAlone, State.followUps, hphase, hwindow]
  rw [withdrawCommand_defined ha hw hd, answer_pass _ (by simp [hr]), answer_nil]
  simp only [withdrawEffect, hr, halone]

/-- WITHDRAW of a pending upgrade clears it, and a grant pass follows (R56). -/
theorem withdrawCommand_upgrade (ha : (s.slot c).state = .active) (hw : NamesWindow e w)
    (hd : (s.window w).state ≠ .undefined) (hno : s.waitingOf c w = none) (hu : (s.claim w).upgrader = some c)
    (hr : s.holdOf c w = some r) :
    withdrawCommand c e s =
      ((s.setClaim w { s.claim w with upgrader := none }).grantPass w,
        Reply.success .ok (bitsAt 0 7 r.val ||| bitAt 8 true) 0) := by
  rw [withdrawCommand_defined ha hw hd, answer_pass _ (by simp [hu]), answer_nil]
  simp only [withdrawEffect, hno, hr, Option.getD_some]

/-- WITHDRAW with neither is refused (R54). -/
theorem withdrawCommand_notWaiting (ha : (s.slot c).state = .active) (hw : NamesWindow e w)
    (hd : (s.window w).state ≠ .undefined) (hno : s.waitingOf c w = none) (hu : (s.claim w).upgrader ≠ some c) :
    withdrawCommand c e s = (s, Reply.refusal .notWaiting) :=
  (withdrawCommand_defined ha hw hd).trans (answer_fail _ (by simp [hno, hu]))

end

/-- Settles O28: by the caller's waiting claim, its pending upgrade, or neither. -/
theorem withdrawEffect_holds : Obligations.WithdrawEffect := by
  unfold Obligations.WithdrawEffect
  rintro s c e w ⟨htake, ha⟩ hw hd
  have hrun := runCommand_of_takes htake withdrawCommand
  refine ⟨fun r hr => ?_, fun r hno hu hr => ?_, fun hno hu => ⟨_, hrun, onlyAnswered_of_command
    (withdrawCommand_notWaiting (s := s.popCommand c) ha hw hd hno hu)⟩⟩
  · rwa [withdrawCommand_waiting (s := s.popCommand c) ha hw hd hr] at hrun
  · rwa [withdrawCommand_upgrade (s := s.popCommand c) ha hw hd hno hu hr] at hrun

end Sys2Proof.Machine
end

section
/-! SUPPORT. The hold commands: RELEASE, RENEW, UPGRADE, DOWNGRADE and TRANSFER (R62 to R74). -/

namespace Sys2Proof.Machine

/-! ### The common checks (R62) -/

/-- The ACTIVE caller names a defined window on which it has hold `r`: what the common checks ask for (R62). -/
structure HoldNamed (s : State) (c : SlotId) (e : CommandEntry) (w : WindowId) (r : RecordId) : Prop where
  active : (s.slot c).state = .active
  names : NamesWindow e w
  defined : (s.window w).state ≠ .undefined
  hold : s.holdOf c w = some r

/-- Taking the entry from its FIFO leaves all that the common checks read. -/
theorem TakesOnHold.named {s : State} {c : SlotId} {e : CommandEntry} {code : BitVec 8} {w : WindowId} {r : RecordId}
    (h : TakesOnHold s c e code w r) : HoldNamed (s.popCommand c) c e w r := by
  obtain ⟨⟨-, active⟩, names, defined, hold⟩ := h
  exact ⟨active, names, defined, hold⟩

section
variable {s : State} {c n : SlotId} {e : CommandEntry} {w : WindowId} {q r : RecordId}
  {checks : List (Bool × OutcomeCode)} {effect : State × Reply} {onHold : RecordId → State × Reply}

/-- A caller without a hold on the window fails the last of the common checks. -/
theorem answer_notHeld (hw : NamesWindow e w) (h : s.holdOf c w = none) :
    s.answer (s.checkHolds c e :: checks) effect = (s, Reply.refusal .notHeld) :=
  answer_fail _ (by simp [windowField_of_names hw, h])

theorem holdChecks_notHeld (ha : (s.slot c).state = .active) (hw : NamesWindow e w)
    (hd : (s.window w).state ≠ .undefined) (h : s.holdOf c w = none) :
    s.answer (holdChecks c e s ++ checks) effect = (s, Reply.refusal .notHeld) :=
  (answer_active ha).trans <| (answer_window hw).trans <| (answer_defined hw hd).trans <| answer_notHeld hw h

/-- TRANSFER's range step is passed where its two fields are in range (R62, R73). -/
theorem answer_windowAndSlot (hw : NamesWindow e w) (hn : NamesSlot e.param1 n) :
    s.answer ((!windowInRange e.param0 || !slotInRange e.param1, .badParam) :: checks) effect =
      s.answer checks effect :=
  answer_pass _ (by simp [windowInRange_of_names hw, slotInRange_of_names hn])

theorem transferCommand_notHeld (ha : (s.slot c).state = .active) (hw : NamesWindow e w) (hn : NamesSlot e.param1 n)
    (hd : (s.window w).state ≠ .undefined) (h : s.holdOf c w = none) :
    transferCommand c e s = (s, Reply.refusal .notHeld) :=
  (answer_active ha).trans <| (answer_windowAndSlot hw hn).trans <| (answer_defined hw hd).trans <| answer_notHeld hw h

namespace HoldNamed

theorem isHold (h : HoldNamed s c e w r) : (s.record r).phase.isHold = true := (holdOf_some h.hold).1

theorem window (h : HoldNamed s c e w r) : (s.record r).window = w := (holdOf_some h.hold).2.1

theorem slot (h : HoldNamed s c e w r) : (s.record r).slot = c := (holdOf_some h.hold).2.2

theorem isHoldOn (h : HoldNamed s c e w r) : s.isHoldOn w r = true := isHoldOn_iff.mpr ⟨h.isHold, h.window⟩

theorem holdMode (h : HoldNamed s c e w r) : s.holdMode c w = some (s.record r).mode := by
  simp [State.holdMode, h.hold]

theorem holdPhase (h : HoldNamed s c e w r) : s.holdPhase c w = (s.record r).phase := by
  simp [State.holdPhase, h.hold]

/-- The hold on window `w`, started anew with that window's lease (R22). -/
theorem restartHold (h : HoldNamed s c e w r) (m : Mode) :
    s.restartHold r m =
      s.setRecord r { s.record r with phase := .held, mode := m, counter := (s.window w).lease } := by
  rw [State.restartHold, h.window]

/-- With the hold found, the command goes on to its own checks and its effect on that hold. -/
theorem answer_held (h : HoldNamed s c e w r) :
    s.answer (s.checkHolds c e :: checks) (s.onHold c w onHold) = s.answer checks (onHold r) := by
  rw [State.checkHolds, answer_pass _ (by simp [windowField_of_names h.names, h.hold])]
  simp only [State.onHold, h.hold]

theorem answer_holdChecks (h : HoldNamed s c e w r) :
    s.answer (holdChecks c e s ++ checks) (s.onHold c w onHold) = s.answer checks (onHold r) :=
  (answer_active h.active).trans <| (answer_window h.names).trans <|
    (answer_defined h.names h.defined).trans h.answer_held

theorem answer_recalled (h : HoldNamed s c e w r) (hr : (s.record r).phase = .recalled) :
    s.answer (s.checkNotRecalled c e :: checks) effect = (s, Reply.refusal .recalled) :=
  answer_fail _ (by simp [windowField_of_names h.names, h.holdPhase, hr])

theorem answer_notRecalled (h : HoldNamed s c e w r) (hr : (s.record r).phase ≠ .recalled) :
    s.answer (s.checkNotRecalled c e :: checks) effect = s.answer checks effect :=
  answer_pass _ (by simp [windowField_of_names h.names, h.holdPhase, hr])

/-- A hold that is released is a hold retired, on the window it is on (R35, R63). -/
theorem retireAlone (h : HoldNamed s c e w r) : s.retireAlone r none = (s.retire r).followUps w true none := by
  rw [State.retireAlone, h.window, h.isHold]

/-! ### Each command past the common checks -/

theorem releaseCommand_eq (h : HoldNamed s c e w r) : releaseCommand c e s = releaseEffect w s r := by
  unfold releaseCommand
  rw [windowField_of_names h.names]
  exact h.answer_holdChecks (checks := [])

theorem renewCommand_eq (h : HoldNamed s c e w r) :
    renewCommand c e s = s.answer [s.checkNotRecalled c e] (renewEffect w s r) := by
  unfold renewCommand
  rw [windowField_of_names h.names]
  exact h.answer_holdChecks

theorem upgradeCommand_eq (h : HoldNamed s c e w r) :
    upgradeCommand c e s =
      s.answer
        [s.checkNotRecalled c e, (decide ((s.record r).mode ≠ .shared), .notShared),
         (decide ((s.claim w).upgrader ≠ none) && decide ((s.claim w).upgrader ≠ some c), .upgradeConflict)]
        (upgradeEffect c w s r) := by
  unfold upgradeCommand
  rw [windowField_of_names h.names, h.answer_holdChecks, h.holdMode]
  simp only [ne_eq, Option.some.injEq]

theorem downgradeCommand_eq (h : HoldNamed s c e w r) :
    downgradeCommand c e s =
      s.answer
        [s.checkNotRecalled c e, (decide ((s.record r).mode ≠ .exclusive), .notExclusive),
         (decide ((s.window w).share ≠ .sharedAllowed), .notSharable)]
        (downgradeEffect w s r) := by
  unfold downgradeCommand
  rw [windowField_of_names h.names, h.answer_holdChecks, h.holdMode]
  simp only [ne_eq, Option.some.injEq]

theorem transferCommand_eq (h : HoldNamed s c e w r) (hn : NamesSlot e.param1 n) :
    transferCommand c e s =
      s.answer
        [(decide ((s.claim w).marker ≠ .idle), .recallPending), s.checkNotRecalled c e,
         (decide ((s.record r).mode ≠ .exclusive), .notExclusive),
         ((s.exclusiveWaiter n w).isNone, .noExclusiveWaiter)]
        (transferEffect n w s r) := by
  unfold transferCommand
  rw [windowField_of_names h.names, slotField_of_names hn, answer_active h.active, answer_windowAndSlot h.names hn,
    answer_defined h.names h.defined, h.answer_held, h.holdMode]
  simp only [ne_eq, Option.some.injEq]

/-! ### Refusals of a RECALLED hold -/

/-- RENEW, UPGRADE and DOWNGRADE refuse a RECALLED hold (R66, R68, R71). -/
theorem commandOf_recalled (h : HoldNamed s c e w r) (hr : (s.record r).phase = .recalled) {i : Instr}
    (hi : i ∈ [Instr.renew, .upgrade, .downgrade]) : commandOf i c e s = (s, Reply.refusal .recalled) := by
  fin_cases hi
  · exact h.renewCommand_eq.trans (h.answer_recalled hr)
  · exact h.upgradeCommand_eq.trans (h.answer_recalled hr)
  · exact h.downgradeCommand_eq.trans (h.answer_recalled hr)

/-- TRANSFER looks at the window's recall before it looks at the hold (R73). -/
theorem transferCommand_recalled (h : HoldNamed s c e w r) (hn : NamesSlot e.param1 n)
    (hr : (s.record r).phase = .recalled) :
    transferCommand c e s =
      (s, Reply.refusal (if (s.claim w).marker ≠ .idle then .recallPending else .recalled)) := by
  rw [h.transferCommand_eq hn]
  split
  · next hk => exact answer_fail _ (by simpa using hk)
  · next hk => exact (answer_pass _ (by simpa using hk)).trans (h.answer_recalled hr)

end HoldNamed

theorem commandOf_notHeld (ha : (s.slot c).state = .active) (hw : NamesWindow e w)
    (hd : (s.window w).state ≠ .undefined) (h : s.holdOf c w = none) {i : Instr}
    (hi : i ∈ [Instr.release, .renew, .upgrade, .downgrade]) : commandOf i c e s = (s, Reply.refusal .notHeld) := by
  fin_cases hi
  · exact holdChecks_notHeld (checks := []) ha hw hd h
  all_goals exact holdChecks_notHeld ha hw hd h

end

/-- Settles O29: by the common checks for a caller without a hold, and by each command's own next checks for one whose
hold is RECALLED. -/
theorem holdCommandChecks : Obligations.HoldCommandChecks := by
  unfold Obligations.HoldCommandChecks
  rintro s c e w hw hd p hp ⟨htake, ha⟩ hslot
  have hrow : p ∈ takeRows := by fin_cases hp <;> decide
  have hname : p.1 = .transfer → NamesSlot e.param1 (slotField e.param1) := fun hi => by
    simp [slotField, NamesSlot, Nat.mod_eq_of_lt (hslot hi)]
  refine ⟨_, exec_of_takes hrow htake, fun hno => onlyAnswered_of_command ?_, fun r hr hrec => ?_⟩
  · by_cases hi : p.1 = .transfer
    · rw [hi]
      exact transferCommand_notHeld (s := s.popCommand c) ha hw (hname hi) hd hno
    · have hrest : p.1 ∈ [Instr.release, .renew, .upgrade, .downgrade] := by
        fin_cases hp <;> simp at hi ⊢
      exact commandOf_notHeld (s := s.popCommand c) ha hw hd hno hrest
  · have h : HoldNamed (s.popCommand c) c e w r := ⟨ha, hw, hd, hr⟩
    refine ⟨fun hi => onlyAnswered_of_command (h.commandOf_recalled hrec hi), fun hi => ?_⟩
    rw [hi]
    exact onlyAnswered_of_command (h.transferCommand_recalled (hname hi) hrec)

/-! ### RELEASE and RENEW (R63, R66) -/

/-- Settles O30: retiring a hold is retiring a record, whose follow-ups are those of a hold. -/
theorem releaseEffect_holds : Obligations.ReleaseEffect := by
  unfold Obligations.ReleaseEffect
  intro s c e w r htake
  have h := TakesOnHold.named htake
  refine (runCommand_of_takes htake.1.1 releaseCommand).trans ?_
  rw [h.releaseCommand_eq, releaseEffect, h.retireAlone]
  rfl

/-- Settles O31: the hold starts anew, in its own mode. -/
theorem renewEffect_holds : Obligations.RenewEffect := by
  unfold Obligations.RenewEffect
  intro s c e w r htake hr
  have h := TakesOnHold.named htake
  refine ⟨_, runCommand_of_takes htake.1.1 renewCommand, ?_⟩
  rw [h.renewCommand_eq, h.answer_notRecalled hr, answer_nil, renewEffect, h.restartHold]
  exact ⟨answeredInTables_of_beside e _ (setRecord_beside ..), by simp, fun q hq => by simp [hq], rfl, rfl, rfl⟩

/-! ### UPGRADE (R68 to R70) -/

section
variable {s : State} {c : SlotId} {e : CommandEntry} {w : WindowId} {r : RecordId}

/-- A field that holds the code of SHARED adds nothing to a word. -/
theorem or_sharedField (x : Word) (lo width : Nat) : x ||| bitsAt lo width Mode.shared.code = x := by
  simp [bitsAt, Mode.code]

/-- A pending upgrade blocks the pass on a window that has not exactly one hold (R48 step 2). -/
theorem grantPass_of_upgrade_not_sole (hu : (s.claim w).upgrader = some c) (hh : ∀ q, s.holders w ≠ [q]) :
    s.grantPass w = s := by
  by_cases hopen : (s.window w).state = .opened ∧ (s.claim w).marker = .idle
  · rw [grantPass_of_open hopen.1 hopen.2, State.grantSteps, hu]
    dsimp only
    split
    · next q hq => exact absurd hq (hh q)
    · rfl
  · exact grantPass_of_not_open (not_and_or.mp hopen)

namespace HoldNamed

/-- A caller that is not its window's sole holder is one of several. -/
theorem holders_ne_singleton (h : HoldNamed s c e w r) (hh : s.holders w ≠ [r]) (q : RecordId) :
    s.holders w ≠ [q] := fun hq => by
  have hr : r ∈ s.holders w := mem_holders.mpr h.isHoldOn
  obtain rfl : r = q := by simpa [hq] using hr
  exact hh hq

/-- The sole holder is EXCLUSIVE at once, and no waiting claim joins it (R69, R70). -/
theorem upgradeEffect_sole (h : HoldNamed s c e w r) (hu : (s.claim w).upgrader = none) (hh : s.holders w = [r]) :
    upgradeEffect c w s r =
      (s.setRecord r { s.record r with phase := .held, mode := .exclusive, counter := (s.window w).lease },
        Reply.success .ok (bitsAt 0 7 r.val ||| bitsAt 8 1 1) 0) := by
  have hsettled : SettledAt w (s.restartHold r .exclusive) :=
    .of_exclusive (r := r) (by simpa using hu) (by simp [State.isHoldOn, h.window]) (by simp)
  rw [upgradeEffect, if_pos hh, grantPass_of_settled hsettled, h.restartHold]
  rfl

/-- With other holders the caller is the pending upgrader, and the window stays as blocked as it was (R69, R70). -/
theorem upgradeEffect_queued (h : HoldNamed s c e w r) (hu : (s.claim w).upgrader = none) (hh : s.holders w ≠ [r]) :
    upgradeEffect c w s r =
      (s.setClaim w { s.claim w with upgrader := some c },
        Reply.success .queued (bitsAt 0 7 r.val ||| bitsAt 16 4 ((s.holders w).length - 1)) 0) := by
  have hpass : (s.setClaim w { s.claim w with upgrader := some c }).grantPass w =
      s.setClaim w { s.claim w with upgrader := some c } :=
    grantPass_of_upgrade_not_sole (c := c) (by simp) (h.holders_ne_singleton hh)
  simp only [upgradeEffect, if_neg hh, hu, reduceCtorEq, if_false, hpass, or_sharedField]

/-- The pending upgrader stays what it is (R69). -/
theorem upgradeEffect_again (hu : (s.claim w).upgrader = some c) (hh : s.holders w ≠ [r]) :
    upgradeEffect c w s r =
      (s, Reply.success .queued (bitsAt 0 7 r.val ||| bitsAt 16 4 ((s.holders w).length - 1)) 0) := by
  simp only [upgradeEffect, if_neg hh, hu, if_true, or_sharedField]

theorem upgradeCommand_notShared (h : HoldNamed s c e w r) (hr : (s.record r).phase ≠ .recalled)
    (hm : (s.record r).mode = .exclusive) : upgradeCommand c e s = (s, Reply.refusal .notShared) := by
  rw [h.upgradeCommand_eq, h.answer_notRecalled hr, answer_fail _ (by simp [hm])]

theorem upgradeCommand_conflict {u : SlotId} (h : HoldNamed s c e w r) (hr : (s.record r).phase ≠ .recalled)
    (hm : (s.record r).mode = .shared) (hu : (s.claim w).upgrader = some u) (huc : u ≠ c) :
    upgradeCommand c e s = (s, Reply.refusal .upgradeConflict) := by
  rw [h.upgradeCommand_eq, h.answer_notRecalled hr, answer_pass _ (by simp [hm]), answer_fail _ (by simp [hu, huc])]

theorem upgradeCommand_passes (h : HoldNamed s c e w r) (hr : (s.record r).phase ≠ .recalled)
    (hm : (s.record r).mode = .shared) (hu : (s.claim w).upgrader = none ∨ (s.claim w).upgrader = some c) :
    upgradeCommand c e s = upgradeEffect c w s r := by
  rw [h.upgradeCommand_eq, h.answer_notRecalled hr, answer_pass _ (by simp [hm]),
    answer_pass _ (by rcases hu with hu | hu <;> simp [hu]), answer_nil]

end HoldNamed
end

/-- Settles O32: by the mode of the hold, the pending upgrader, and the other holds. -/
theorem upgradeEffect_holds : Obligations.UpgradeEffect := by
  unfold Obligations.UpgradeEffect
  intro s c e w r htake hr
  have h := TakesOnHold.named htake
  have hrun := runCommand_of_takes htake.1.1 upgradeCommand
  refine ⟨fun hm => ?_, fun u hm hu huc => ?_, fun hm hu hh => ?_, fun hm hu hh => ?_, fun hm hu hh => ?_⟩
  · exact ⟨_, hrun, onlyAnswered_of_command (h.upgradeCommand_notShared hr hm)⟩
  · exact ⟨_, hrun, onlyAnswered_of_command (h.upgradeCommand_conflict hr hm hu huc)⟩
  · rw [h.upgradeCommand_passes hr hm (.inl hu), h.upgradeEffect_sole hu hh] at hrun
    exact ⟨_, hrun, answeredInTables_of_beside e _ (setRecord_beside ..), by simp, fun q hq => by simp [hq], rfl, rfl,
      rfl⟩
  · rw [h.upgradeCommand_passes hr hm (.inl hu), h.upgradeEffect_queued hu hh] at hrun
    exact ⟨_, hrun, answeredInTables_of_beside e _ (setClaim_beside ..), by simp,
      ⟨fun v _ => rfl, fun v hv => by simp [hv]⟩, rfl, rfl, rfl⟩
  · exact ⟨_, hrun, onlyAnswered_of_command
      ((h.upgradeCommand_passes hr hm (.inr hu)).trans (HoldNamed.upgradeEffect_again hu hh))⟩

/-! ### DOWNGRADE (R71, R72) -/

/-- Settles O33: by the mode of the hold and the share policy of its window. -/
theorem downgradeEffect_holds : Obligations.DowngradeEffect := by
  unfold Obligations.DowngradeEffect
  intro s c e w r htake hr
  have h := TakesOnHold.named htake
  have hcommand := h.downgradeCommand_eq.trans (h.answer_notRecalled hr)
  have hrun := runCommand_of_takes htake.1.1 downgradeCommand
  refine ⟨fun hm => ?_, fun hm hshare => ?_, fun hm hshare => ?_⟩
  · exact ⟨_, hrun, onlyAnswered_of_command (hcommand.trans (answer_fail _ (by simp [hm])))⟩
  · exact ⟨_, hrun, onlyAnswered_of_command
      ((hcommand.trans (answer_pass _ (by simp [hm]))).trans (answer_fail _ (by simp [hshare])))⟩
  · refine hrun.trans ?_
    rw [hcommand, answer_pass _ (by simp [hm]), answer_pass _ (by simp [hshare]), answer_nil, downgradeEffect,
      h.restartHold, or_sharedField]
    rfl

/-! ### TRANSFER (R73, R74) -/

section
variable {s : State} {c n : SlotId} {e : CommandEntry} {w : WindowId} {q r : RecordId}

/-- A slot that does not wait EXCLUSIVE on the window is no one to transfer to (R73 step 9). -/
theorem exclusiveWaiter_none (h : ∀ q, s.waitingOf n w = some q → (s.record q).mode = .shared) :
    s.exclusiveWaiter n w = none := by
  cases hq : s.exclusiveWaiter n w with
  | none => rfl
  | some q =>
    obtain ⟨hwait, hx⟩ := exclusiveWaiter_some hq
    simp [h q hwait] at hx

theorem exclusiveWaiter_of_waitingOf (hq : s.waitingOf n w = some q) (hx : (s.record q).mode = .exclusive) :
    s.exclusiveWaiter n w = some q := by
  simp [State.exclusiveWaiter, hq, hx]

namespace HoldNamed

/-- TRANSFER past its checks gives the hold to the waiting claim (R74). -/
theorem transferCommand_passes (h : HoldNamed s c e w r) (hn : NamesSlot e.param1 n)
    (hk : (s.claim w).marker = .idle) (hr : (s.record r).phase ≠ .recalled) (hm : (s.record r).mode = .exclusive)
    (hq : s.waitingOf n w = some q) (hx : (s.record q).mode = .exclusive) :
    transferCommand c e s =
      ((s.retire r).grant q, Reply.success .ok (bitsAt 0 7 r.val ||| bitsAt 16 3 n.val) (bitsAt 0 7 q.val)) := by
  have hwaiter := exclusiveWaiter_of_waitingOf hq hx
  rw [h.transferCommand_eq hn, answer_pass _ (by simp [hk]), h.answer_notRecalled hr, answer_pass _ (by simp [hm]),
    answer_pass _ (by simp [hwaiter]), answer_nil]
  simp only [transferEffect, hwaiter]

/-- The waiting claim is not the caller's hold. -/
theorem ne_of_waitingOf (h : HoldNamed s c e w r) (hq : s.waitingOf n w = some q) : q ≠ r := fun he =>
  ClaimPhase.ne_waiting_of_isHold h.isHold (he ▸ (waitingOf_some hq).1)

/-- The caller's record is FREE and the waiting claim is a hold with a full lease; no other record changes (R74). -/
theorem record_transfer (h : HoldNamed s c e w r) (hq : s.waitingOf n w = some q) (p : RecordId) :
    ((s.retire r).grant q).record p =
      if p = q then { s.record q with phase := .held, counter := (s.window w).lease, beneficiary := false }
      else if p = r then ClaimRecord.cleared
      else s.record p := by
  obtain ⟨-, -, hwindow⟩ := waitingOf_some hq
  simp [h.ne_of_waitingOf hq, hwindow]

/-- The waiting claim leaves the wait list, and no pending upgrade of the caller is left (R34, R74). -/
theorem claim_transfer (h : HoldNamed s c e w r) (hq : s.waitingOf n w = some q) (v : WindowId) :
    ((s.retire r).grant q).claim v =
      if v = w then
        { s.claim w with
          waitList := (s.claim w).waitList.erase q
          upgrader := if (s.claim w).upgrader = some c then none else (s.claim w).upgrader }
      else s.claim v := by
  obtain ⟨-, -, hwindow⟩ := waitingOf_some hq
  by_cases hv : v = w
  · subst hv
    simp [h.ne_of_waitingOf hq, hwindow, h.window, leave_hold h.isHold, h.slot]
  · simp [h.ne_of_waitingOf hq, hwindow, h.window, hv]

/-- The new holder is told, and no one else (R74). -/
theorem posted_transfer (h : HoldNamed s c e w r) (hq : s.waitingOf n w = some q) :
    Posted s ((s.retire r).grant q)
      [(n, .window w, .granted (s.record q).mode (s.record q).tag)] := by
  obtain ⟨hphase, hslot, hwindow⟩ := waitingOf_some hq
  have hkept : (s.retire r).record q = s.record q := by simp [h.ne_of_waitingOf hq]
  obtain ⟨-, -, -, -, -, -, hposted, -⟩ :=
    grantingARecord (s.retire r) q w (by rw [hkept, hphase]) (by rw [hkept, hwindow])
  rwa [hkept, hslot] at hposted

end HoldNamed
end

/-- Settles O34: by the mode of the hold and the claim that waits; the effect is a retirement and then a grant, with no
grant pass after them. -/
theorem transferEffect_holds : Obligations.TransferEffect := by
  unfold Obligations.TransferEffect
  intro s c e w r n htake hn hk hr
  have h := TakesOnHold.named htake
  have hcommand := (h.transferCommand_eq hn).trans ((answer_pass _ (by simp [hk])).trans (h.answer_notRecalled hr))
  have hrun := runCommand_of_takes htake.1.1 transferCommand
  refine ⟨fun hm => ?_, fun hm hno => ?_, fun q hm hq hx => ?_⟩
  · exact ⟨_, hrun, onlyAnswered_of_command (hcommand.trans (answer_fail _ (by simp [hm])))⟩
  · exact ⟨_, hrun, onlyAnswered_of_command ((hcommand.trans (answer_pass _ (by simp [hm]))).trans
      (answer_fail _ (by simp [exclusiveWaiter_none (s := s.popCommand c) hno])))⟩
  · have hrq : r ≠ q := (h.ne_of_waitingOf hq).symm
    have hrecord := h.record_transfer hq
    have hclaim := h.claim_transfer hq
    have hposted := h.posted_transfer hq
    rw [record_popCommand, hx] at hposted
    rw [h.transferCommand_passes hn hk hr hm hq hx] at hrun
    exact ⟨_, hrun, answeredInTables_of_beside e _ ((retire_beside ..).trans (grant_beside ..)),
      (hrecord r).trans ((if_neg hrq).trans (if_pos rfl)), (hrecord q).trans (if_pos rfl),
      fun p hpr hpq => (hrecord p).trans ((if_neg hpq).trans (if_neg hpr)), (hclaim w).trans (if_pos rfl),
      ⟨fun v _ => window_grant ((s.popCommand c).retire r) q v, fun v hv => (hclaim v).trans (if_neg hv)⟩,
      grant_windows .., hposted⟩

end Sys2Proof.Machine
end

section
/-! SUPPORT. The Tick Generator (R79, R82), and the last tick of one record (R84 to R87). -/

namespace Sys2Proof.Machine

/-! ### The Tick Generator -/

section
variable {s : State}

theorem refclk_asserted (h : s.porAsserted = true) : s.refclk = s := by
  simp [State.refclk, h]

/-- Within a period the divider counts the cycle, and nothing else happens. -/
theorem refclk_counts (h : s.porAsserted = false) (hd : s.divider + 1 < Config.tickPeriod s.tickSelect) :
    s.refclk = { s with divider := s.divider + 1 } := by
  simp [State.refclk, h, Nat.not_le.mpr hd]

/-- The cycle that completes a period issues a tick. -/
theorem refclk_issues (h : s.porAsserted = false) (hd : Config.tickPeriod s.tickSelect ≤ s.divider + 1) :
    s.refclk = s.issueTick := by
  simp [State.refclk, h, hd]

/-- A REFCLK cycle changes the divider and the two counts of ticks due alone. -/
theorem refclk_eq (s : State) : ∃ divider claimTicks slotTicks,
    s.refclk = { s with divider := divider, claimTicksDue := claimTicks, slotTicksDue := slotTicks } := by
  unfold State.refclk
  split
  · exact ⟨_, _, _, rfl⟩
  · split <;> exact ⟨_, _, _, rfl⟩

end

/-- Settles O2: by POR# and by whether the cycle completes a period. -/
theorem idleStepCountsRefclk : Obligations.IdleStepCountsRefclk := by
  unfold Obligations.IdleStepCountsRefclk
  intro s hidle
  refine ⟨_, step_of_idle hidle, refclk_asserted, fun hpor hd => ?_, fun hpor hd => ?_, ?_⟩
  · rw [refclk_counts hpor hd]
    exact ⟨rfl, rfl, rfl⟩
  · rw [refclk_issues hpor hd]
    exact ⟨rfl, rfl, rfl⟩
  · obtain ⟨divider, claimTicks, slotTicks, heq⟩ := refclk_eq s
    rw [heq]
    exact ⟨⟨rfl, rfl, rfl⟩, ⟨rfl, rfl, rfl⟩, ⟨rfl, rfl, rfl, rfl, rfl⟩, rfl, rfl, rfl, rfl, rfl⟩

/-- Where POR# is not asserted, TICK issues a tick. -/
theorem exec_tick {s : State} (h : s.porAsserted = false) : exec .tick s = .next s.issueTick := by
  simp [exec, execTick, h]

/-- Settles O48: the tick that is issued is the row's whole effect. -/
theorem tickIsIssuedToBothTables : Obligations.TickIsIssuedToBothTables := by
  unfold Obligations.TickIsIssuedToBothTables
  intro s hpor
  exact ⟨_, exec_tick hpor, rfl, rfl, rfl, rfl, ⟨rfl, rfl, rfl⟩, ⟨rfl, rfl, rfl⟩, ⟨rfl, rfl, rfl, rfl, rfl⟩, rfl, rfl,
    rfl, rfl⟩

/-! ### The last tick of one record -/

section
variable {s : State} {r : RecordId}

/-- The last tick of a lease is the transition alone, since nothing is retired (R85). -/
theorem lastTick_held (hpor : s.porAsserted = false) (h1 : (s.record r).counter = 1)
    (hp : (s.record r).phase = .held) : s.lastTick r .held = s.expire r := by
  simp [State.lastTick, hpor, h1, hp]

/-- Any other last tick retires the record, with its notice and the follow-ups (R84, R86, R87). -/
theorem lastTick_retired (hpor : s.porAsserted = false) (h1 : (s.record r).counter = 1) {phase : ClaimPhase}
    {body : NoticeBody} (hp : (s.record r).phase = phase) (hf : phase ≠ .free) (hh : phase ≠ .held)
    (hbody : (s.record r).expiryBody (s.window (s.record r).window).grace = body) :
    s.lastTick r phase =
      ((s.retire r).post (s.record r).slot (.window (s.record r).window) body).followUps (s.record r).window
        phase.isHold none := by
  subst hp hbody
  simp [State.lastTick, hpor, h1, hh, expire_retired hf hh]

/-- A lease that runs out makes its hold LAPSING with the grace (R85). -/
theorem record_expire_held (hp : (s.record r).phase = .held) :
    (s.expire r).record r =
      { s.record r with phase := .lapsing, counter := (s.window (s.record r).window).grace.setWidth 16 } := by
  simp [expire_held hp, State.setPhase]

/-- No claim state changes with it. -/
theorem claims_expire_held (hp : (s.record r).phase = .held) : (s.expire r).claims = s.claims := by
  rw [expire_held hp]
  exact (post_tables (s.setPhase r _ _) _ _ _).claims

/-- Its slot is warned. -/
theorem posted_expire_held (hp : (s.record r).phase = .held) :
    Posted s (s.expire r)
      [((s.record r).slot, .window (s.record r).window, .lapseWarning (s.window (s.record r).window).grace)] := by
  have hbody : (s.record r).expiryBody (s.window (s.record r).window).grace =
      .lapseWarning (s.window (s.record r).window).grace := by simp only [ClaimRecord.expiryBody, hp]
  rw [expire_held hp, hbody]
  exact posted_post (s.setPhase r _ _) _ _ _

end

/-- Settles O51: a lease that runs out is its transition alone, and any other record is retired, with the follow-ups. -/
theorem recordsRunOut : Obligations.RecordsRunOut := by
  unfold Obligations.RecordsRunOut
  rintro s r _ _ hpor h1 rfl rfl
  refine ⟨fun hp => congrArg Host.Outcome.next (?_ : s.lastTick r .waiting = _),
    fun hp => congrArg Host.Outcome.next (?_ : s.lastTick r .lapsing = _),
    fun hp => congrArg Host.Outcome.next (?_ : s.lastTick r .recalled = _), fun hp => ?_⟩
  · exact lastTick_retired hpor h1 hp (by decide) (by decide) (by simp only [ClaimRecord.expiryBody, hp])
  · exact lastTick_retired hpor h1 hp (by decide) (by decide) (by simp only [ClaimRecord.expiryBody, hp])
  · exact lastTick_retired hpor h1 hp (by decide) (by decide) (by simp only [ClaimRecord.expiryBody, hp])
  · refine ⟨s.expire r, congrArg _ (lastTick_held hpor h1 hp), record_expire_held hp, fun q hq => ?_,
      expire_windows s r, claims_expire_held hp, posted_expire_held hp, expire_beside s r⟩
    rw [record_expire (by simp [hp]), if_neg hq]

end Sys2Proof.Machine
end

section
/-! SUPPORT. The silence counters: SET_TIMING's reload and the tick at the Slot Table (R80, R134, R139). -/

namespace Sys2Proof.Machine

/-! ### Visits to the slots, one after another -/

/-- Beside the slot records nothing has changed, and those of the slots in `l` are revised by `g`. -/
structure SlotsRevised (g : SlotRecord → SlotRecord) (l : List SlotId) (s t : State) : Prop where
  rest : ∃ slots, t = { s with slots := slots }
  slot : ∀ m, t.slot m = if m ∈ l then g (s.slot m) else s.slot m

section
variable {s : State} {g : SlotRecord → SlotRecord}

theorem setSlot_self (s : State) (n : SlotId) : s.setSlot n (s.slot n) = s := by
  simp [State.setSlot, State.slot]

/-- Visits that each revise one slot record revise those of all the slots they visit. -/
theorem foldl_slotsRevised {f : State → SlotId → State}
    (hf : ∀ slots n, State.slot { s with slots := slots } n = s.slot n →
      f { s with slots := slots } n = State.setSlot { s with slots := slots } n (g (s.slot n))) (l : List SlotId)
    (hl : l.Nodup) : SlotsRevised g l s (l.foldl f s) := by
  induction l using List.reverseRecOn with
  | nil => exact ⟨⟨s.slots, rfl⟩, fun m => by simp⟩
  | append_singleton l n ih =>
    obtain ⟨hl, -, hn⟩ := List.nodup_append.mp hl
    obtain ⟨⟨slots, heq⟩, hslot⟩ := ih hl
    have hnot : n ∉ l := fun h => hn n h n (by simp) rfl
    have hkept := hslot n
    rw [if_neg hnot] at hkept
    rw [heq] at hslot hkept
    rw [List.foldl_append, heq, List.foldl_cons, List.foldl_nil, hf slots n hkept]
    refine ⟨⟨_, rfl⟩, fun m => ?_⟩
    by_cases hm : m = n
    · simp [hm]
    · simp [hm, hslot]

/-- The visits of all slots revise every slot record. -/
theorem slot_of_revised {t : State} (h : SlotsRevised g allSlots s t) (m : SlotId) : t.slot m = g (s.slot m) := by
  exact (h.slot m).trans (if_pos (List.mem_finRange m))

end

/-! ### SET_TIMING (R80, R139) -/

/-- The record of an ACTIVE slot with its silence counter reloaded. -/
def SlotRecord.reloaded (limit : Ticks) (x : SlotRecord) : SlotRecord :=
  if x.state = .active then { x with silence := limit } else x

theorem reloadSilence_eq (s : State) (n : SlotId) :
    s.reloadSilence n = s.setSlot n ((s.slot n).reloaded s.silenceLimit) := by
  unfold State.reloadSilence SlotRecord.reloaded
  split
  · rfl
  · exact (setSlot_self s n).symm

/-- SET_TIMING reloads the counter of every ACTIVE slot, and changes nothing else of the slots (R139). -/
theorem reloadAllSilence_revised (s : State) :
    SlotsRevised (SlotRecord.reloaded s.silenceLimit) allSlots s s.reloadAllSilence :=
  foldl_slotsRevised (fun _ n hn => by rw [reloadSilence_eq, hn]) allSlots (List.nodup_finRange 8)

/-- The select is written, and the divider restarts where it changes (R80). -/
theorem selectTick_eq (s : State) (select : Fin 4) :
    s.selectTick select =
      { s with tickSelect := select, divider := if s.tickSelect = select then s.divider else 0 } := by
  unfold State.selectTick
  split
  · next h => rw [← h]
  · rfl

section
variable {s : State} {c : SlotId} {e : CommandEntry}

theorem setTimingCommand_badParam (ha : (s.slot c).state = .active) (hm : s.master = some c)
    (h : 4 ≤ (lowByte e.param0).toNat) : setTimingCommand c e s = (s, Reply.refusal .badParam) := by
  rw [setTimingCommand, answer_active ha, answer_master hm,
    answer_fail _ (by simpa [CommandEntry.tickSelectInRange] using h)]

theorem setTimingCommand_inRange (ha : (s.slot c).state = .active) (hm : s.master = some c) {select : Fin 4}
    (h : (lowByte e.param0).toNat = select.val) :
    setTimingCommand c e s =
      ((State.reloadAllSilence { s with silenceLimit := e.silenceField }).selectTick select,
        Reply.success .ok (bitsAt 0 2 select.val) (bitsAt 0 16 e.silenceField.toNat)) := by
  have hselect : Fin.ofNat 4 select.val = select := Fin.ofNat_val_eq_self select
  rw [setTimingCommand, answer_active ha, answer_master hm, answer_pass _ (by simp [CommandEntry.tickSelectInRange, h]),
    answer_nil, h, hselect]

/-- A take whose command leaves pointer and ports alone is answered (R162). -/
theorem answered_of_ports {m : State} (y : Reply) (hpointer : m.pointer = c)
    (hports : m.ports = (s.popCommand c).ports) : Answered s (m.pushResponse c e y) c e y := by
  have hport (n : SlotId) : m.port n = (s.popCommand c).port n := by simp only [State.port, hports]
  exact ⟨hpointer, by simp [hport], fun n hn => by simp [hport, hn]⟩

end

/-- Settles O24: by the range check of the tick select; in range, every ACTIVE slot is reloaded and the select is
written. -/
theorem setTimingEffect : Obligations.SetTimingEffect := by
  unfold Obligations.SetTimingEffect
  rintro s c e ⟨⟨htake, ha⟩, hm⟩
  have hrun := runCommand_of_takes htake setTimingCommand
  refine ⟨fun hbad => ?_, fun select hselect => ?_⟩
  · exact ⟨_, hrun, onlyAnswered_of_command (setTimingCommand_badParam (s := s.popCommand c) ha hm hbad)⟩
  · have hslots := reloadAllSilence_revised { s.popCommand c with silenceLimit := e.silenceField }
    have hslot := slot_of_revised hslots
    obtain ⟨slots, heq⟩ := hslots.rest
    rw [setTimingCommand_inRange (s := s.popCommand c) ha hm hselect, selectTick_eq, heq] at hrun
    rw [heq] at hslot
    exact ⟨_, hrun, answered_of_ports _ rfl rfl, rfl, rfl, rfl, hslot, rfl, rfl, rfl, rfl, rfl, ⟨rfl, rfl, rfl⟩,
      ⟨rfl, rfl, rfl, rfl, rfl⟩⟩

/-! ### The tick at the Slot Table (R134) -/

/-- The record of an ACTIVE slot with its silence counter decreased. -/
def SlotRecord.countedDown (x : SlotRecord) : SlotRecord :=
  if x.state = .active then { x with silence := BitVec.ofNat 16 (x.silence.toNat - 1) } else x

section
variable {s : State} {n : SlotId}

theorem tickSlot_inactive (h : (s.slot n).state ≠ .active) : s.tickSlot n = s := by
  simp [State.tickSlot, h]

theorem tickSlot_exits (h : (s.slot n).state = .active) (h1 : (s.slot n).silence = 1) :
    s.tickSlot n = s.exit n .silent := by
  simp [State.tickSlot, h, h1]

/-- A counter of ticks decreased by one is that of a claim record counted down. -/
theorem counter_decreased (x : Ticks) : (if x = 0 then 0 else x - 1) = BitVec.ofNat 16 (x.toNat - 1) :=
  congrArg ClaimRecord.counter (countDown_counter { ClaimRecord.cleared with counter := x })

theorem tickSlot_counts (h : (s.slot n).state = .active) (h1 : 1 < (s.slot n).silence.toNat) :
    s.tickSlot n = s.setSlot n { s.slot n with silence := BitVec.ofNat 16 ((s.slot n).silence.toNat - 1) } := by
  have hne : (s.slot n).silence ≠ 1 := fun he => by simp [he] at h1
  rw [State.tickSlot, if_pos h, if_neg hne, counter_decreased]

/-- A slot that is not at its last tick stays, and counts down if it is ACTIVE. -/
theorem tickSlot_eq (h : (s.slot n).state = .active → 1 < (s.slot n).silence.toNat) :
    s.tickSlot n = s.setSlot n (s.slot n).countedDown := by
  unfold SlotRecord.countedDown
  split
  · next ha => exact tickSlot_counts ha (h ha)
  · next ha => rw [tickSlot_inactive ha, setSlot_self]

/-- Where no slot is at its last tick, the visits decrease every ACTIVE slot's counter and nothing else changes. -/
theorem foldl_tickSlot_revised (h : ∀ n, (s.slot n).state = .active → 1 < (s.slot n).silence.toNat) :
    SlotsRevised SlotRecord.countedDown allSlots s (allSlots.foldl State.tickSlot s) :=
  foldl_slotsRevised (fun _ n hn => by rw [tickSlot_eq (by rw [hn]; exact h n), hn]) allSlots (List.nodup_finRange 8)

/-- The block takes a tick that is due (R82). -/
theorem exec_slotTableTick {k : Nat} (hpor : s.porAsserted = false) (hk : s.slotTicksDue = k + 1) :
    exec .slotTableTick s = .next (State.tickSlots { s with slotTicksDue := k }) := by
  simp [exec, execSlotTableTick, hpor, hk]

end

/-- Settles O50: by the ticks due and the silence limit, and then visit by visit. -/
theorem tickAtTheSlotTable : Obligations.TickAtTheSlotTable := by
  unfold Obligations.TickAtTheSlotTable
  intro s hpor
  have visits (k : Nat) (hk : s.slotTicksDue = k + 1) (hl : s.silenceLimit ≠ 0) :
      exec .slotTableTick s = .next (allSlots.foldl State.tickSlot { s with slotTicksDue := k }) := by
    rw [exec_slotTableTick hpor hk, State.tickSlots, if_neg hl]
  refine ⟨fun h0 => ?_, fun k hk hl => ?_, visits, fun n => tickSlot_inactive, fun n => tickSlot_exits,
    fun n => tickSlot_counts, fun k hk hl hcount => ?_⟩
  · simp [exec, execSlotTableTick, h0]
  · rw [exec_slotTableTick hpor hk, State.tickSlots, if_pos hl]
  · have hslots := foldl_tickSlot_revised (s := { s with slotTicksDue := k }) hcount
    have hslot := slot_of_revised hslots
    obtain ⟨slots, heq⟩ := hslots.rest
    have hrun := visits k hk hl
    rw [heq] at hslot hrun
    exact ⟨_, hrun, rfl, hslot, ⟨rfl, rfl, rfl⟩, ⟨rfl, rfl, rfl⟩, ⟨rfl, rfl, rfl, rfl, rfl⟩, rfl, rfl, rfl, rfl, rfl,
      rfl⟩

end Sys2Proof.Machine
end

section
/-! SUPPORT. A checked cycle: what it changes, by its verdict, and the end of a cycle (R111 to R122). -/

namespace Sys2Proof.Machine

/-! ### The decision and the change of each verdict -/

/-- The decision on the cycle in hand that a verdict gives (R118 to R120). -/
def State.decision (s : State) : Verdict → Decision
  | .passHolder w _ => .pass (s.window w).target
  | .passForeign w => .pass (s.window w).target
  | .refuse _ => .refuse
  | .holdOff => .holdOff

/-- What a verdict changes beside the cycle in hand: a renewal by access, or a VIOLATION (R113, R121). -/
def State.judged (s : State) (n : SlotId) (addr : Word) (kind : AccessKind) : Verdict → State
  | .passHolder w r => s.renewByAccess w r
  | .passForeign _ => s
  | .refuse cause => s.post n (s.violationSubject addr) (.violation kind cause)
  | .holdOff => s

section
variable {s : State} {n : SlotId} {addr : Word} {kind : AccessKind} {w : WindowId} {r : RecordId}

theorem carryOut_eq (s : State) (n : SlotId) (addr : Word) (kind : AccessKind) (v : Verdict) :
    s.carryOut n addr kind v = (s.judged n addr kind v).takeInHand (s.decision v) := by
  cases v <;> rfl

theorem renewByAccess_cases (s : State) (w : WindowId) (r : RecordId) :
    s.renewByAccess w r = s ∨ s.renewByAccess w r = s.restartHold r (s.record r).mode := by
  unfold State.renewByAccess
  split
  · exact .inr rfl
  · exact .inl rfl

/-- A verdict changes claim records and notice queues alone. -/
theorem judged_beside (s : State) (n : SlotId) (addr : Word) (kind : AccessKind) (v : Verdict) :
    SameBesideClaims s (s.judged n addr kind v) ∧ (s.judged n addr kind v).windows = s.windows ∧
      (s.judged n addr kind v).claims = s.claims := by
  cases v with
  | passHolder w r =>
    rw [State.judged]
    obtain h | h := renewByAccess_cases s w r <;> rw [h]
    · exact ⟨.refl s, rfl, rfl⟩
    · exact ⟨setRecord_beside .., rfl, rfl⟩
  | passForeign | holdOff => exact ⟨.refl s, rfl, rfl⟩
  | refuse => exact ⟨post_beside .., post_windows .., (post_tables ..).claims⟩

/-- A cycle that is not refused posts nothing (R118, R119). -/
theorem notices_judged {v : Verdict} (h : s.decision v ≠ .refuse) : (s.judged n addr kind v).notices = s.notices := by
  cases v with
  | passHolder w r =>
    rw [State.judged]
    obtain h | h := renewByAccess_cases s w r <;> rw [h]
    rfl
  | passForeign | holdOff => rfl
  | refuse => exact absurd rfl h

/-- A pass by a hold renews it, if the window is renew-on-access and the hold is not RECALLED (R89, R121). -/
theorem record_renewByAccess (hr : (s.record r).phase.isHold = true) (q : RecordId) :
    (s.renewByAccess w r).record q =
      if q = r ∧ (s.window w).renewOnAccess = true ∧ (s.record r).phase ≠ .recalled then
        { s.record r with phase := .held, counter := (s.window (s.record r).window).lease }
      else s.record q := by
  have hrenew : (s.record r).phase.isRenewable = true ↔ (s.record r).phase ≠ .recalled := by
    simp [ClaimPhase.isRenewable_iff, hr]
  unfold State.renewByAccess
  by_cases h : (s.window w).renewOnAccess = true ∧ (s.record r).phase ≠ .recalled
  · rw [if_pos ⟨h.1, hrenew.mpr h.2⟩, record_restartHold]
    simp [h.1, h.2]
  · rw [if_neg fun k => h ⟨k.1, hrenew.mp k.2⟩, if_neg fun k => h k.2]

/-- A verdict other than a pass by a hold changes no claim record. -/
theorem record_judged {v : Verdict} (h : ∀ w r, v ≠ .passHolder w r) (q : RecordId) :
    (s.judged n addr kind v).record q = s.record q := by
  cases v with
  | passHolder w r => exact absurd rfl (h w r)
  | passForeign | holdOff => rfl
  | refuse => exact record_post ..

/-! ### The verdict (R112) -/

theorem judge_inactive (h : (s.slot n).state ≠ .active) : s.judge n addr kind = .refuse .slotNotActive := if_pos h

theorem judge_unmapped (ha : (s.slot n).state = .active) (hd : s.decodeAddress addr = none) :
    s.judge n addr kind = .refuse .unmapped := by
  simp [State.judge, ha, hd]

theorem judge_closed (ha : (s.slot n).state = .active) (hd : s.decodeAddress addr = some w)
    (hw : (s.window w).state = .closed) : s.judge n addr kind = .refuse .windowNotOpen := by
  simp [State.judge, ha, hd, hw]

theorem judge_mapped (ha : (s.slot n).state = .active) (hd : s.decodeAddress addr = some w)
    (hw : (s.window w).state ≠ .closed) : s.judge n addr kind = s.judgeHolder n w kind := by
  simp [State.judge, ha, hd, hw]

/-- A holder's cycle passes, or is a write by a SHARED hold (R115). -/
theorem judgeHolder_hold (hr : s.holdOf n w = some r) :
    s.judgeHolder n w kind = .passHolder w r ∨ s.judgeHolder n w kind = .refuse .sharedWrite := by
  simp only [State.judgeHolder, hr]
  split
  · exact .inl rfl
  · exact .inr rfl

/-- A foreign cycle is decided by the window's foreign policy (R117). -/
theorem judgeHolder_foreign (hr : s.holdOf n w = none) :
    s.judgeHolder n w kind = .passForeign w ∨ s.judgeHolder n w kind = .refuse .notHolder ∨
      s.judgeHolder n w kind = .holdOff := by
  simp only [State.judgeHolder, hr, State.judgeForeign]
  split
  · exact .inr (.inl rfl)
  · exact .inr (.inr rfl)
  · split
    · exact .inl rfl
    · exact .inr (.inl rfl)

/-- A holder's cycle is refused as a write by a SHARED hold alone. -/
theorem judge_refused_hold (ha : (s.slot n).state = .active) (hd : s.decodeAddress addr = some w)
    (hw : (s.window w).state ≠ .closed) (hr : s.holdOf n w ≠ none)
    (h : s.decision (s.judge n addr kind) = .refuse) : s.judge n addr kind = .refuse .sharedWrite := by
  obtain ⟨r, hr⟩ := Option.ne_none_iff_exists'.mp hr
  rw [judge_mapped ha hd hw] at h ⊢
  obtain hv | hv := judgeHolder_hold (kind := kind) hr
  · simp [hv, State.decision] at h
  · exact hv

/-- A foreign cycle is refused since its initiator is no holder. -/
theorem judge_refused_foreign (ha : (s.slot n).state = .active) (hd : s.decodeAddress addr = some w)
    (hw : (s.window w).state ≠ .closed) (hr : s.holdOf n w = none)
    (h : s.decision (s.judge n addr kind) = .refuse) : s.judge n addr kind = .refuse .notHolder := by
  rw [judge_mapped ha hd hw] at h ⊢
  obtain hv | hv | hv := judgeHolder_foreign (kind := kind) hr
  · simp [hv, State.decision] at h
  · exact hv
  · simp [hv, State.decision] at h

/-- A cycle passes by a hold exactly when it passes and the initiator has the hold on the window it decodes to. -/
theorem judge_eq_passHolder :
    s.judge n addr kind = .passHolder w r ↔
      s.decodeAddress addr = some w ∧ s.holdOf n w = some r ∧
        ∃ target, s.decision (s.judge n addr kind) = .pass target := by
  by_cases ha : (s.slot n).state = .active
  swap
  · simp [judge_inactive ha, State.decision]
  cases hd : s.decodeAddress addr with
  | none => simp [judge_unmapped ha hd, State.decision]
  | some v =>
    by_cases hw : (s.window v).state = .closed
    · simp [judge_closed ha hd hw, State.decision]
    rw [judge_mapped ha hd hw]
    cases hr : s.holdOf n v with
    | none =>
      have hnot : s.judgeHolder n v kind ≠ .passHolder w r := by
        obtain h | h | h := judgeHolder_foreign (kind := kind) hr <;> simp [h]
      refine iff_of_false hnot ?_
      rintro ⟨h, hhold, -⟩
      cases h
      simp [hr] at hhold
    | some q =>
      obtain h | h := judgeHolder_hold (kind := kind) hr
      · rw [h]
        constructor
        · rintro ⟨rfl, rfl⟩
          exact ⟨rfl, hr, _, rfl⟩
        · rintro ⟨hv, hhold, -⟩
          cases hv
          rw [Option.some.inj (hr.symm.trans hhold)]
      · simp [h, State.decision]

/-! ### A checked cycle (R111) -/

/-- The state in which a verdict is carried out: the initiator's silence counter is reloaded first (R122). -/
theorem checkCycle_eq (s : State) (n : SlotId) (addr : Word) (kind : AccessKind) :
    s.checkCycle n addr kind =
      ((s.reloadSilence n).judged n addr kind (s.judge n addr kind)).takeInHand (s.decision (s.judge n addr kind)) := by
  have hdecision : (s.reloadSilence n).decision = s.decision := by
    funext v
    cases v <;> simp only [State.decision, State.window, reloadSilence_windows]
  rw [State.checkCycle, carryOut_eq, hdecision]

/-- What a checked cycle leaves alone, whatever its verdict: all but its initiator's silence counter, the claim records,
the queues and the cycle in hand (R111, R122). -/
structure CycleFrame (n : SlotId) (s t : State) : Prop where
  slot : t.slot n = (s.slot n).reloaded s.silenceLimit
  otherSlots : SameOtherSlots n s t
  windows : t.windows = s.windows
  claims : t.claims = s.claims
  role : SameRole s t
  clock : SameClock s t
  ports : t.ports = s.ports
  pointer : t.pointer = s.pointer
  presLines : t.presLines = s.presLines
  porAsserted : t.porAsserted = s.porAsserted
  pending : t.pending = s.pending

theorem checkCycle_frame (s : State) (n : SlotId) (addr : Word) (kind : AccessKind) :
    CycleFrame n s (s.checkCycle n addr kind) := by
  rw [checkCycle_eq, reloadSilence_eq]
  obtain ⟨hbeside, hwindows, hclaims⟩ :=
    judged_beside (s.setSlot n ((s.slot n).reloaded s.silenceLimit)) n addr kind (s.judge n addr kind)
  have hslot := hbeside.slot
  obtain ⟨-, hports, hpointer, hrole, hclock, houtside⟩ := hbeside
  exact {
    slot := (hslot n).trans (by simp)
    otherSlots := fun m hm => (hslot m).trans (by simp [hm])
    windows := hwindows
    claims := hclaims
    role := ⟨hrole.master, hrole.eligible, hrole.silenceLimit⟩
    clock := ⟨hclock.tickSelect, hclock.divider, hclock.claimTicksDue, hclock.slotTicksDue⟩
    ports := hports
    pointer := hpointer
    presLines := houtside.presLines
    porAsserted := houtside.porAsserted
    pending := houtside.pending }

theorem inHand_checkCycle (s : State) (n : SlotId) (addr : Word) (kind : AccessKind) :
    (s.checkCycle n addr kind).inHand = some (s.decision (s.judge n addr kind)) := by
  rw [checkCycle_eq]
  rfl

theorem portAnswer_checkCycle (s : State) (n : SlotId) (addr : Word) (kind : AccessKind) :
    (s.checkCycle n addr kind).portAnswer = .idle := by
  rw [checkCycle_eq]
  rfl

/-- A refused cycle posts VIOLATION to its initiator with the cause (R113, R120). -/
theorem posted_checkCycle {cause : ViolationCause} {x : Subject} (hv : s.judge n addr kind = .refuse cause)
    (hx : s.violationSubject addr = x) : Posted s (s.checkCycle n addr kind) [(n, x, .violation kind cause)] := by
  have hsubject : (s.reloadSilence n).violationSubject addr = x := by rw [reloadSilence_eq, ← hx]; rfl
  have hqueue (m : SlotId) : (s.reloadSilence n).queue m = s.queue m := by rw [reloadSilence_eq]; rfl
  intro m
  have hpost := posted_post (s.reloadSilence n) n x (.violation kind cause) m
  rw [hqueue, (reloadSilence_still s n).state] at hpost
  rw [checkCycle_eq, hv, State.judged, hsubject]
  exact hpost

theorem notices_checkCycle (h : s.decision (s.judge n addr kind) ≠ .refuse) :
    (s.checkCycle n addr kind).notices = s.notices := by
  rw [checkCycle_eq]
  refine (notices_judged (s := s.reloadSilence n) ?_).trans (by rw [reloadSilence_eq]; rfl)
  cases hv : s.judge n addr kind <;> simp_all [State.decision]

/-- The one record that a checked cycle changes is a hold that is renewed by access (R89, R121). -/
theorem record_checkCycle (s : State) (n : SlotId) (addr : Word) (kind : AccessKind) (r : RecordId) :
    (s.checkCycle n addr kind).record r =
      if ∃ w, s.judge n addr kind = .passHolder w r ∧ (s.window w).renewOnAccess = true ∧
          (s.record r).phase ≠ .recalled then
        { s.record r with phase := .held, counter := (s.window (s.record r).window).lease }
      else s.record r := by
  rw [checkCycle_eq, reloadSilence_eq]
  by_cases hv : ∃ w q, s.judge n addr kind = .passHolder w q
  · obtain ⟨w, q, hv⟩ := hv
    obtain ⟨-, hq, -⟩ := judge_eq_passHolder.mp hv
    have hrecord := record_renewByAccess (s := s.setSlot n ((s.slot n).reloaded s.silenceLimit)) (w := w)
      (holdOf_some hq).1 r
    rw [hv]
    refine hrecord.trans ?_
    by_cases hr : r = q
    · subst hr
      simp
    · simp [hr, Ne.symm hr]
  · push Not at hv
    rw [if_neg fun ⟨w, h, _⟩ => hv w r h]
    exact record_judged hv r

end

/-! ### The lines of the backplane (R118 to R120) -/

section
variable {t : State}

theorem lines_of_pass {target : TargetId} (h : t.inHand = some (.pass target)) (ha : t.portAnswer = .idle) :
    (∀ x, t.ts x = decide (x = target)) ∧ t.terr = false ∧ t.trty = false := by
  simp [State.ts, State.terr, State.trty, h, ha, eq_comm]

theorem lines_of_refuse (h : t.inHand = some .refuse) :
    (∀ x, t.ts x = false) ∧ t.terr = true ∧ t.trty = false := by
  simp [State.ts, State.terr, State.trty, h]

theorem lines_of_holdOff (h : t.inHand = some .holdOff) (ha : t.portAnswer = .idle) :
    (∀ x, t.ts x = false) ∧ t.terr = false ∧ t.trty = true := by
  simp [State.ts, State.terr, State.trty, h, ha]

end

theorem exec_cycleCheck {s : State} {addr : Word} (hpor : s.porAsserted = false) (haddr : inSharedSpace addr = true)
    (n : SlotId) (kind : AccessKind) (width : Nat) :
    exec (.cycleCheck n addr kind width) s = .next (s.checkCycle n addr kind) := by
  simp [exec, execCycleCheck, hpor, haddr]

/-- Settles O46: the queues, the lines and the renewed record by the verdict, and the rest by what every verdict leaves
alone. -/
theorem cycleEffects : Obligations.CycleEffects := by
  unfold Obligations.CycleEffects
  intro s n addr kind width hpor haddr
  have hidle := portAnswer_checkCycle s n addr kind
  have hhand := inHand_checkCycle s n addr kind
  have decided {d : Decision} (h : (s.checkCycle n addr kind).inHand = some d) :
      s.decision (s.judge n addr kind) = d := Option.some.inj (hhand.symm.trans h)
  have quiet {d : Decision} (h : (s.checkCycle n addr kind).inHand = some d) (hd : d ≠ .refuse) :
      (s.checkCycle n addr kind).notices = s.notices := notices_checkCycle ((decided h).trans_ne hd)
  have mapped {w : WindowId} (hd : s.decodeAddress addr = some w) : s.violationSubject addr = .window w := by
    rw [State.violationSubject, hd]
  obtain ⟨hslot, hothers, hwindows, hclaims, hrole, hclock, hports, hpointer, hlines, hreset, hpending⟩ :=
    checkCycle_frame s n addr kind
  refine ⟨⟨_, exec_cycleCheck hpor haddr n kind width, hidle, hslot, hothers, hwindows, hclaims, hrole, hclock, hports,
    hpointer, hlines, hreset, hpending, fun target h => ?_, lines_of_refuse, fun h => ?_, fun ha => ?_, fun ha hd => ?_,
    fun w ha hd => ⟨fun hw => ?_, fun hw h hr => ?_, fun hw h hr => ?_⟩, fun r => ?_⟩, ?_⟩
  · obtain ⟨hts, hterr, htrty⟩ := lines_of_pass h hidle
    exact ⟨hts, hterr, htrty, quiet h (by simp)⟩
  · obtain ⟨hts, hterr, htrty⟩ := lines_of_holdOff h hidle
    exact ⟨hts, hterr, htrty, quiet h (by simp)⟩
  · exact posted_checkCycle (judge_inactive ha) rfl
  · exact posted_checkCycle (judge_unmapped ha hd) (by rw [State.violationSubject, hd])
  · exact posted_checkCycle (judge_closed ha hd hw) (mapped hd)
  · exact posted_checkCycle (judge_refused_hold ha hd hw hr (decided h)) (mapped hd)
  · exact posted_checkCycle (judge_refused_foreign ha hd hw hr (decided h)) (mapped hd)
  · refine (record_checkCycle s n addr kind r).trans (if_congr ?_ rfl rfl)
    simp only [judge_eq_passHolder, hhand, Option.some.injEq]
    constructor
    · rintro ⟨w, ⟨hd, hr, target, hpass⟩, hrenew⟩
      exact ⟨w, target, hd, hr, hpass, hrenew⟩
    · rintro ⟨w, target, hd, hr, hpass, hrenew⟩
      exact ⟨w, ⟨hd, hr, target, hpass⟩, hrenew⟩
  · exact ⟨_, rfl, rfl, rfl, fun _ => rfl, rfl, rfl, rfl, ⟨rfl, rfl, rfl⟩, ⟨rfl, rfl, rfl⟩, ⟨rfl, rfl, rfl, rfl⟩, rfl,
      rfl, rfl, rfl, rfl, rfl, rfl⟩

end Sys2Proof.Machine
end

section
/-! SUPPORT. RECALL: its checks, the placing of its beneficiary, and its effect (R94 to R97). -/

namespace Sys2Proof.Machine

/-! ### The checks of RECALL (R94) -/

/-- RECALL's PARAM1 gives beneficiary `b`, or none (10.8). -/
structure GivesBeneficiary (e : CommandEntry) (b : Option SlotId) : Prop where
  given : e.param1.getLsbD 8 = true ↔ b ≠ none
  slot : ∀ n, b = some n → NamesSlot e.param1 n

/-- RECALL's checks from the window-defined step on (R94 steps 5 to 11). -/
def recallChecks (e : CommandEntry) (s : State) : List (Bool × OutcomeCode) :=
  [s.checkDefined e, (decide ((s.window (windowField e.param0)).state ≠ .opened), .windowClosed),
    (decide ((s.claim (windowField e.param0)).marker ≠ .idle), .recallPending)] ++ beneficiaryChecks e s

section
variable {s : State} {c n : SlotId} {e : CommandEntry} {w : WindowId} {b : Option SlotId}

theorem GivesBeneficiary.of_clear (h : e.param1.getLsbD 8 = false) : GivesBeneficiary e none :=
  ⟨by simp only [h, Bool.false_eq_true, ne_eq, not_true], fun _ hn => nomatch hn⟩

theorem GivesBeneficiary.of_set (h : e.param1.getLsbD 8 = true) (hn : NamesSlot e.param1 n) :
    GivesBeneficiary e (some n) :=
  ⟨by simp [h], fun _ hm => Option.some.inj hm ▸ hn⟩

/-- The beneficiary that PARAM1 gives is the one the command reads. -/
theorem GivesBeneficiary.beneficiary (h : GivesBeneficiary e b) : e.beneficiary = b := by
  cases b with
  | none => simpa [CommandEntry.beneficiary, CommandEntry.beneficiaryGiven, flagBit] using h.given
  | some n =>
    have hgiven := h.given.mpr (by simp)
    simp [CommandEntry.beneficiary, CommandEntry.beneficiaryGiven, flagBit, hgiven, slotField_of_names (h.slot n rfl)]

/-- A beneficiary that is given is in range (10.8). -/
theorem GivesBeneficiary.inRange (h : GivesBeneficiary e b) :
    (e.beneficiaryGiven && !slotInRange e.param1) = false := by
  cases b with
  | none =>
    have hclear : e.beneficiaryGiven = false := by simpa [CommandEntry.beneficiaryGiven, flagBit] using h.given
    simp [hclear]
  | some n => simp [slotInRange_of_names (h.slot n rfl)]

/-- RECALL from the master, of a window and with a beneficiary in range, goes on with the window-defined step (R94). -/
theorem recallCommand_inRange (ha : (s.slot c).state = .active) (hm : s.master = some c) (hw : NamesWindow e w)
    (hb : GivesBeneficiary e b) :
    recallCommand c e s = s.answer (recallChecks e s) (recallEffect w b s) := by
  have hrange : (!windowInRange e.param0 || (e.beneficiaryGiven && !slotInRange e.param1)) = false := by
    rw [windowInRange_of_names hw, hb.inRange]
    rfl
  rw [← windowField_of_names hw, ← hb.beneficiary]
  exact ((answer_active ha).trans (answer_master hm)).trans (answer_pass _ hrange)

/-- The first check that fails from the window-defined step on (R94 steps 5 to 7). -/
theorem firstRefusal_recallChecks (hw : NamesWindow e w) :
    firstRefusal (recallChecks e s) =
      if (s.window w).state = .undefined then some .noWindow
      else if (s.window w).state ≠ .opened then some .windowClosed
      else if (s.claim w).marker ≠ .idle then some .recallPending
      else firstRefusal (beneficiaryChecks e s) := by
  simp only [recallChecks, List.cons_append, List.nil_append, firstRefusal, State.checkDefined, windowField_of_names hw,
    WindowRecord.isDefined, Bool.not_eq_true', decide_eq_true_eq, decide_eq_false_iff_not, not_not]

/-- The first check of the beneficiary that fails (R94 steps 8 to 11). -/
theorem firstRefusal_beneficiaryChecks (hw : NamesWindow e w) (hb : GivesBeneficiary e (some n)) :
    firstRefusal (beneficiaryChecks e s) =
      if (s.slot n).state ≠ .active then some .slotNotActive
      else if s.holdOf n w ≠ none then some .alreadyHeld
      else if s.waitingOf n w = none ∧ (s.slot n).quota ≤ s.inUse n then some .quotaFull
      else if s.waitingOf n w = none ∧ s.lowestFree = none then some .poolEmpty
      else none := by
  simp only [beneficiaryChecks, hb.beneficiary, firstRefusal, State.quotaReached, windowField_of_names hw,
    Bool.and_eq_true, decide_eq_true_eq, Option.isSome_iff_ne_none, Option.isNone_iff_eq_none]

/-- A check of RECALL that fails refuses it, and nothing changes (R165). -/
theorem recallCommand_refused {o : OutcomeCode} (ha : (s.slot c).state = .active) (hm : s.master = some c)
    (hw : NamesWindow e w) (hb : GivesBeneficiary e b) (h : firstRefusal (recallChecks e s) = some o) :
    recallCommand c e s = (s, Reply.refusal o) := by
  rw [recallCommand_inRange ha hm hw hb]
  simp only [State.answer, h]

end

/-- Settles O38: by the first check that fails, those of the window before those of the beneficiary. -/
theorem recallChecksInOrder : Obligations.RecallChecksInOrder := by
  unfold Obligations.RecallChecksInOrder
  rintro s c e w b ⟨⟨htake, ha⟩, hm⟩ hw hgiven hslot
  have hb : GivesBeneficiary e b := ⟨hgiven, hslot⟩
  have refused : ∀ o, firstRefusal (recallChecks e (s.popCommand c)) = some o →
      OnlyAnswered s (s.completeTake c e recallCommand) c e (Reply.refusal o) := fun _ h =>
    onlyAnswered_of_command (recallCommand_refused (s := s.popCommand c) ha hm hw hb h)
  refine ⟨s.completeTake c e recallCommand, runCommand_of_takes htake recallCommand, ?_⟩
  refine ite_of_firstRefusal refused (firstRefusal_recallChecks hw) fun _ h => ite_of_firstRefusal refused h fun _ h =>
    ite_of_firstRefusal refused h fun _ h => ?_
  rintro n rfl
  have hchecks := h.trans (firstRefusal_beneficiaryChecks (s := s.popCommand c) hw hb)
  refine ite_of_firstRefusal refused hchecks fun _ h => ite_of_firstRefusal refused h fun _ h =>
    ite_of_firstRefusal refused h fun _ h hno hpool => ?_
  exact refused .poolEmpty (h.trans (if_pos ⟨hno, hpool⟩))

/-! ### The placing of the beneficiary (R96) -/

/-- The record that RECALL places for the beneficiary it is given: the one that waits on the window, or else the lowest
FREE one (R96). -/
inductive State.Places (s : State) (w : WindowId) : Option SlotId → Option RecordId → Prop
  /-- No beneficiary is given. -/
  | nobody : s.Places w none none
  /-- The beneficiary waits on the window. -/
  | waiting {n : SlotId} {r : RecordId} (h : s.waitingOf n w = some r) : s.Places w (some n) (some r)
  /-- A record is taken from the pool for it. -/
  | taken {n : SlotId} {r : RecordId} (hno : s.waitingOf n w = none) (h : s.lowestFree = some r) :
      s.Places w (some n) (some r)

/-- The record of a beneficiary that did not wait (R96). -/
def ClaimRecord.newBeneficiary (n : SlotId) (w : WindowId) : ClaimRecord :=
  { phase := .waiting, slot := n, window := w, mode := .exclusive, tag := 0, counter := 0, beneficiary := true }

/-- The record `place`, if there is one, stands for beneficiary `b` at the head of window `w`'s wait list. -/
structure PlacedFor (w : WindowId) (b : Option SlotId) (place : Option RecordId) (s t : State) : Prop where
  beside : SameBesideClaims s t
  windows : t.windows = s.windows
  otherClaims : ∀ v, v ≠ w → t.claim v = s.claim v
  claim : t.claim w =
    { s.claim w with waitList := place.toList ++ (s.claim w).waitList.filter fun r => decide (place ≠ some r) }
  record : ∀ r, t.record r =
    if place = some r ∧ (s.record r).phase = .waiting then { s.record r with beneficiary := true }
    else if place = some r then ClaimRecord.newBeneficiary (b.getD 0) w
    else s.record r
  notices : t.notices = s.notices

section
variable {s : State} {n : SlotId} {w : WindowId} {b : Option SlotId} {r : RecordId} {place : Option RecordId}

theorem placeBeneficiary_waiting (h : s.waitingOf n w = some r) :
    s.placeBeneficiary w n = (s.moveToHead w r, some r) := by
  simp only [State.placeBeneficiary, h]
  rfl

theorem placeBeneficiary_taken (hno : s.waitingOf n w = none) (h : s.lowestFree = some r) :
    s.placeBeneficiary w n = (s.insertHead w n r, some r) := by
  simp only [State.placeBeneficiary, hno, h]
  rfl

/-- Whichever record is placed, it is the one that RECALL answers, and it stands at the head (R96). -/
theorem State.Places.placedFor (h : s.Places w b place) (hlists : WaitListsLawful s) :
    (s.placeGiven w b).2 = place ∧ PlacedFor w b place s (s.placeGiven w b).1 := by
  cases h with
  | nobody =>
    rw [State.placeGiven]
    exact ⟨rfl, .refl s, rfl, fun _ _ => rfl, by simp, fun _ => by simp, rfl⟩
  | @waiting n r h =>
    obtain ⟨hphase, -, -⟩ := waitingOf_some h
    rw [State.placeGiven, placeBeneficiary_waiting h]
    refine ⟨rfl, (setRecord_beside ..).trans (setClaim_beside ..), rfl, fun v hv => by simp [hv], ?_, fun q => ?_,
      rfl⟩
    · have hrest : (s.claim w).waitList.erase r = (s.claim w).waitList.filter fun q => decide (some r ≠ some q) :=
        ((hlists w).1.erase_eq_filter r).trans (List.filter_congr fun q _ => by
          simp [bne, beq_eq_decide, eq_comm])
      rw [claim_moveToHead, if_pos rfl, hrest]
      rfl
    · by_cases hq : q = r
      · subst hq
        simp [hphase]
      · simp [hq, Ne.symm hq]
  | @taken n r hno h =>
    have hfree := lowestFree_some h
    rw [State.placeGiven, placeBeneficiary_taken hno h]
    refine ⟨rfl, (setRecord_beside ..).trans (setClaim_beside ..), rfl, fun v hv => by simp [hv], ?_, fun q => ?_,
      rfl⟩
    · have hkept : (s.claim w).waitList.filter (fun q => decide (some r ≠ some q)) = (s.claim w).waitList :=
        List.filter_eq_self.mpr fun q hq => by
          have hqr : r ≠ q := fun he => hlists.not_mem_of_free hfree w (he ▸ hq)
          simp [hqr]
      rw [claim_insertHead, if_pos rfl, hkept]
      rfl
    · by_cases hq : q = r
      · subst hq
        simp [hfree, ClaimRecord.newBeneficiary]
      · simp [hq, Ne.symm hq]

/-! ### RECALL of a held window (R95, R96) -/

/-- The recall of the holds changes no record that is not a hold. -/
theorem waitingOf_markRecall (x : Option SlotId) : (s.markRecall w x).waitingOf n w = s.waitingOf n w := by
  unfold State.waitingOf
  congr 1
  funext r
  by_cases hr : s.isHoldOn w r = true
  · have hne := ClaimPhase.ne_waiting_of_isHold (isHoldOn_iff.mp hr).1
    simp [State.isWaitingOf, hr, hne]
  · simp [State.isWaitingOf, hr]

theorem lowestFree_markRecall (x : Option SlotId) : (s.markRecall w x).lowestFree = s.lowestFree := by
  unfold State.lowestFree
  congr 1
  funext r
  by_cases hr : s.isHoldOn w r = true
  · have hne := ClaimPhase.ne_free_of_isHold (isHoldOn_iff.mp hr).1
    simp [hr, hne]
  · simp [hr]

theorem State.Places.markRecall (h : s.Places w b place) (x : Option SlotId) :
    (s.markRecall w x).Places w b place := by
  cases h with
  | nobody => exact .nobody
  | waiting h => exact .waiting ((waitingOf_markRecall x).trans h)
  | taken hno h => exact .taken ((waitingOf_markRecall x).trans hno) ((lowestFree_markRecall x).trans h)

/-- On an OPEN window with no recall in progress no hold is RECALLED (R22). -/
theorem RecallsLawful.not_recalled (h : RecallsLawful s) (ho : (s.window w).state = .opened)
    (hk : (s.claim w).marker = .idle) (hr : s.isHoldOn w r = true) : (s.record r).phase ≠ .recalled := fun hp => by
  obtain ⟨-, hw⟩ := isHoldOn_iff.mp hr
  have hwhy := h.2 r hp
  simp [hw, ho, hk] at hwhy

/-- The RECALLED notices to the slots of all holds on the window, in record order (R95). -/
def State.recallNotices (s : State) (w : WindowId) : List (SlotId × Subject × NoticeBody) :=
  (s.holders w).map fun r =>
    ((s.record r).slot, .window w,
      .recalled (s.window w).recallLimit (decide ((s.claim w).upgrader = some (s.record r).slot)))

/-- RECALL has recalled the holds of window `w` and placed beneficiary `b`, if one is given (R95, R96). -/
structure RecalledFor (w : WindowId) (b : Option SlotId) (place : Option RecordId) (s t : State) : Prop where
  beside : SameBesideClaims s t
  windows : t.windows = s.windows
  others : SameOtherWindows w s t
  claim : t.claim w =
    { waitList := place.toList ++ (s.claim w).waitList.filter fun r => decide (place ≠ some r)
      upgrader := none
      marker := .inProgress b }
  record : ∀ r, t.record r =
    if s.isHoldOn w r = true then
      { s.record r with phase := .recalled, counter := (s.window w).recallLimit.setWidth 16 }
    else if place = some r ∧ (s.record r).phase = .waiting then { s.record r with beneficiary := true }
    else if place = some r then ClaimRecord.newBeneficiary (b.getD 0) w
    else s.record r
  posted : Posted s t (s.recallNotices w)

/-- The record that is placed is no hold. -/
theorem State.Places.not_hold (h : s.Places w b (some r)) : (s.record r).phase.isHold = false := by
  cases h with
  | waiting h => simp [(waitingOf_some h).1]
  | taken _ h => simp [lowestFree_some h]

/-- The holds are recalled, each with its notice, and then the beneficiary is placed. -/
theorem markRecall_placeGiven (hclaims : ClaimsLawful s) (hrecalls : RecallsLawful s)
    (ho : (s.window w).state = .opened) (hk : (s.claim w).marker = .idle) (h : s.Places w b place) :
    ((s.markRecall w b).placeGiven w b).2 = place ∧
      RecalledFor w b place s ((s.markRecall w b).placeGiven w b).1 := by
  have hlive : ∀ r, s.isHoldOn w r = true → (s.record r).phase ≠ .recalled := fun r => hrecalls.not_recalled ho hk
  have hrecall := recallHolds_recalled s w (s.claim w).upgrader
  obtain ⟨hplace, k⟩ := (h.markRecall b).placedFor (hclaims.markRecall w b).waitLists
  have hposts : recallPosts w (s.claim w).upgrader s (s.holders w) = s.recallNotices w := by
    unfold recallPosts
    rw [List.filter_eq_self.mpr fun r hr => decide_eq_true (hlive r (mem_holders.mp hr))]
    rfl
  refine ⟨hplace, (hrecall.beside.trans (setClaim_beside ..)).trans k.beside, k.windows.trans hrecall.windows,
    ⟨fun v _ => ?_, fun v hv => ?_⟩, ?_, fun r => ?_, fun n => ?_⟩
  · rw [← window_markRecall s w v b]
    simp only [State.window, k.windows]
  · rw [k.otherClaims v hv]
    simp [hv]
  · rw [k.claim]
    simp
  · rw [k.record r]
    by_cases hr : s.isHoldOn w r = true
    · have hne : place ≠ some r := fun he => by
        subst he
        exact absurd (h.not_hold.symm.trans (isHoldOn_iff.mp hr).1) Bool.false_ne_true
      simp [hr, hne, ClaimRecord.recall, hlive r hr]
    · simp [hr]
  · rw [← hposts, ← hrecall.posted n]
    simp only [State.queue, k.notices]
    rfl

end

section
variable {s : State} {c : SlotId} {e : CommandEntry} {w : WindowId} {b : Option SlotId} {place : Option RecordId}

/-- RECALL that passes its checks has its effect (R95, R97). -/
theorem recallCommand_passes (ha : (s.slot c).state = .active) (hm : s.master = some c) (hw : NamesWindow e w)
    (hb : GivesBeneficiary e b) (ho : (s.window w).state = .opened) (hk : (s.claim w).marker = .idle)
    (hpass : firstRefusal (beneficiaryChecks e s) = none) : recallCommand c e s = recallEffect w b s := by
  have hchecks : firstRefusal (recallChecks e s) = none := by
    rw [firstRefusal_recallChecks hw, if_neg (by simp [ho]), if_neg (by simp [ho]), if_neg (by simp [hk]), hpass]
  rw [recallCommand_inRange ha hm hw hb]
  simp only [State.answer, hchecks]

/-- Without a beneficiary there is nothing more to check (R94). -/
theorem firstRefusal_nobody (hb : GivesBeneficiary e none) : firstRefusal (beneficiaryChecks e s) = none := by
  simp only [beneficiaryChecks, hb.beneficiary, firstRefusal]

/-- An ACTIVE slot without a hold may be the beneficiary, if it waits or a record may be taken for it (R94). -/
theorem firstRefusal_beneficiary {n : SlotId} (hw : NamesWindow e w) (hb : GivesBeneficiary e (some n))
    (hactive : (s.slot n).state = .active) (hhold : s.holdOf n w = none)
    (hroom : s.waitingOf n w = none → s.inUse n < (s.slot n).quota ∧ s.lowestFree ≠ none) :
    firstRefusal (beneficiaryChecks e s) = none := by
  rw [firstRefusal_beneficiaryChecks hw hb, if_neg (by simp [hactive]), if_neg (by simp [hhold]),
    if_neg fun h => absurd (hroom h.1).1 (not_lt.mpr h.2), if_neg fun h => (hroom h.1).2 h.2]

/-- The result of RECALL of a held window (R95). -/
theorem recallReply_held (hh : s.holders w ≠ []) :
    recallReply (s.holders w).length place =
      Reply.success .ok (bitsAt 0 4 (s.holders w).length ||| bitAt 4 true ||| bitAt 5 place.isSome)
        (match place with | none => 0 | some r => bitsAt 0 7 r.val) := by
  cases place <;> simp [recallReply, hh]

/-- On a held window the marker is set, and the result counts the holds (R95). -/
theorem recallEffect_held (hh : s.holders w ≠ []) :
    recallEffect w b s = (((s.markRecall w b).placeGiven w b).1,
      recallReply (s.holders w).length ((s.markRecall w b).placeGiven w b).2) := if_neg hh

end

/-- Settles O39: no hold is RECALLED before, so every hold is recalled with its notice; then the record of the
beneficiary, waiting or from the pool, goes to the head. -/
theorem recallOfHeldWindow : Obligations.RecallOfHeldWindow := by
  unfold Obligations.RecallOfHeldWindow
  rintro s c e w hclaims hrecalls ⟨⟨htake, ha⟩, hm⟩ hw ho hk hh b place hgiven hnobody hben
  have hb : GivesBeneficiary e b := ⟨hgiven, fun n hn => (hben n hn).1⟩
  have hchecks : (s.popCommand c).Places w b place ∧ firstRefusal (beneficiaryChecks e (s.popCommand c)) = none := by
    cases b with
    | none => exact ⟨hnobody rfl ▸ .nobody, firstRefusal_nobody hb⟩
    | some n =>
      obtain ⟨-, hactive, hhold, hplace⟩ := hben n rfl
      obtain ⟨hsome, hwait⟩ | ⟨hno, hquota, hsome, hfree⟩ := hplace
      · obtain ⟨r, rfl⟩ := Option.ne_none_iff_exists'.mp hsome
        exact ⟨.waiting hwait, firstRefusal_beneficiary (s := s.popCommand c) hw hb hactive hhold fun hno =>
          absurd (hno.symm.trans hwait) (by simp)⟩
      · obtain ⟨r, rfl⟩ := Option.ne_none_iff_exists'.mp hsome
        exact ⟨.taken hno hfree, firstRefusal_beneficiary (s := s.popCommand c) hw hb hactive hhold fun _ =>
          ⟨hquota, hfree.trans_ne hsome⟩⟩
  obtain ⟨hplaces, hpass⟩ := hchecks
  obtain ⟨hplace, k⟩ := markRecall_placeGiven (s := s.popCommand c)
    (hclaims.of_tables ⟨rfl, rfl, rfl⟩) hrecalls ho hk hplaces
  have hrun := runCommand_of_takes htake recallCommand
  rw [recallCommand_passes (s := s.popCommand c) ha hm hw hb ho hk hpass, recallEffect_held (s := s.popCommand c) hh,
    hplace, recallReply_held (s := s.popCommand c) hh] at hrun
  exact ⟨_, hrun, answeredInTables_of_beside e _ k.beside, k.windows, ⟨k.others.windows, k.others.claims⟩, k.claim,
    k.record, k.posted⟩

/-! ### RECALL of an unheld window (R97) -/

section
variable {s : State} {n : SlotId} {w : WindowId} {b : Option SlotId} {r : RecordId}

/-- The record of a beneficiary at the head of an unheld window is granted at once (R97). -/
theorem grantPass_insertHead (ho : (s.window w).state = .opened) (hk : (s.claim w).marker = .idle)
    (hh : s.holders w = []) (hu : (s.claim w).upgrader = none) :
    (s.insertHead w n r).grantPass w = (s.insertHead w n r).grant r := by
  have hunheld : (s.insertHead w n r).holders w = [] := holders_eq_nil.mpr fun q => by
    have hq := holders_eq_nil.mp hh q
    by_cases hqr : q = r
    · simp [State.isHoldOn, hqr]
    · simpa [State.isHoldOn, hqr] using hq
  rw [grantPass_of_open (by simpa using ho) (by simpa using hk)]
  exact grantSteps_exclusive (rest := (s.claim w).waitList) (by simpa using hu) (by simp) (by simp) hunheld

/-- A grant posts GRANTED to the record's slot (R47). -/
theorem grant_posted (s : State) (r : RecordId) :
    Posted s (s.grant r)
      [((s.record r).slot, .window (s.record r).window, .granted (s.record r).mode (s.record r).tag)] :=
  posted_post (State.setRecord ..) _ _ _

/-- RECALL of an unheld window places the beneficiary, and a grant pass follows (R97). -/
theorem recallEffect_unheld (hh : s.holders w = []) :
    recallEffect w b s = ((s.placeGiven w b).1.grantPass w, recallReply 0 (s.placeGiven w b).2) := if_pos hh

/-- Without a beneficiary, and with nothing to grant, nothing changes (R97). -/
theorem recallEffect_unheld_nobody (hh : s.holders w = []) (hl : (s.claim w).waitList = [])
    (hu : (s.claim w).upgrader = none) : recallEffect w none s = (s, Reply.success .ok 0 0) := by
  rw [recallEffect_unheld hh, State.placeGiven, grantPass_of_empty hu hl]
  simp [recallReply, bitsAt, bitAt]

/-- A beneficiary that did not wait is granted the record taken for it (R97). -/
theorem recallEffect_unheld_taken (hh : s.holders w = []) (ho : (s.window w).state = .opened)
    (hk : (s.claim w).marker = .idle) (hu : (s.claim w).upgrader = none) (hno : s.waitingOf n w = none)
    (hr : s.lowestFree = some r) :
    recallEffect w (some n) s =
      ((s.insertHead w n r).grant r, Reply.success .ok (bitAt 5 true) (bitsAt 0 7 r.val)) := by
  rw [recallEffect_unheld hh, State.placeGiven, placeBeneficiary_taken hno hr, grantPass_insertHead ho hk hh hu]
  simp [recallReply, bitsAt, bitAt]

/-- No slot has a hold on an unheld window. -/
theorem holdOf_unheld (hh : s.holders w = []) : s.holdOf n w = none :=
  holdOf_none.mpr fun q hq => by simp [holders_eq_nil.mp hh q] at hq

end

/-- Settles O40: with nothing to grant, and with a record for the beneficiary at the head of an unheld window. -/
theorem recallOfUnheldWindow : Obligations.RecallOfUnheldWindow := by
  unfold Obligations.RecallOfUnheldWindow
  rintro s c e w ⟨⟨htake, ha⟩, hm⟩ hw ho hk hh hl hu
  have hrun := runCommand_of_takes htake recallCommand
  refine ⟨fun hclear => ⟨_, hrun, onlyAnswered_of_command ?_⟩, fun n r hset hn hactive hno hquota hr => ?_⟩
  · have hb : GivesBeneficiary e none := .of_clear hclear
    rw [recallCommand_passes (s := s.popCommand c) ha hm hw hb ho hk (firstRefusal_nobody hb),
      recallEffect_unheld_nobody (s := s.popCommand c) hh hl hu]
  · have hb : GivesBeneficiary e (some n) := .of_set hset hn
    have hpass := firstRefusal_beneficiary (s := s.popCommand c) hw hb hactive (holdOf_unheld hh) fun _ =>
      ⟨hquota, hr.trans_ne (by simp)⟩
    rw [recallCommand_passes (s := s.popCommand c) ha hm hw hb ho hk hpass,
      recallEffect_unheld_taken (s := s.popCommand c) hh ho hk hu hno hr] at hrun
    refine ⟨_, hrun, answeredInTables_of_beside e _
        (((setRecord_beside ..).trans (setClaim_beside ..)).trans (grant_beside ..)), by simp, fun q hq => by simp [hq],
      (grant_windows ..).trans rfl, fun v => ?_, ?_⟩
    · by_cases hv : v = w <;> simp [hv]
    · have hposted := grant_posted ((s.popCommand c).insertHead w n r) r
      rw [record_insertHead, if_pos rfl] at hposted
      exact hposted

end Sys2Proof.Machine
end

section
/-! SUPPORT. Which test decides a shared-space cycle, and whose writes pass (R112, R115 to R117). -/

namespace Sys2Proof.Machine

section
variable {s : State} {n : SlotId} {addr : Word} {kind : AccessKind} {w : WindowId} {r : RecordId}

/-! ### Tests 4 to 6, case by case (R112, R115, R117) -/

theorem judgeHolder_exclusive (hr : s.holdOf n w = some r) (hm : (s.record r).mode = .exclusive) :
    s.judgeHolder n w kind = .passHolder w r := by
  simp [State.judgeHolder, hr, hm]

theorem judgeHolder_read (hr : s.holdOf n w = some r) : s.judgeHolder n w .read = .passHolder w r := by
  simp [State.judgeHolder, hr]

theorem judgeHolder_sharedWrite (hr : s.holdOf n w = some r) (hm : (s.record r).mode = .shared) :
    s.judgeHolder n w .write = .refuse .sharedWrite := by
  simp [State.judgeHolder, hr, hm]

theorem judgeHolder_none (hr : s.holdOf n w = none) : s.judgeHolder n w kind = s.judgeForeign w kind := by
  simp [State.judgeHolder, hr]

theorem judgeForeign_refuse (h : (s.window w).foreign = .refuse) : s.judgeForeign w kind = .refuse .notHolder := by
  simp [State.judgeForeign, h]

theorem judgeForeign_holdoff (h : (s.window w).foreign = .holdoff) : s.judgeForeign w kind = .holdOff := by
  simp [State.judgeForeign, h]

theorem judgeForeign_read (h : (s.window w).foreign = .readThrough) : s.judgeForeign w .read = .passForeign w := by
  simp [State.judgeForeign, h]

/-- No foreign write passes: READ_THROUGH lets in reads alone (R117). -/
theorem judgeForeign_write (h : (s.window w).foreign ≠ .holdoff) :
    s.judgeForeign w .write = .refuse .notHolder := by
  unfold State.judgeForeign
  cases hf : (s.window w).foreign with
  | refuse | readThrough => rfl
  | holdoff => exact absurd hf h

/-! ### The decision of the deciding test -/

/-- A cycle whose test refuses it is decided so, with its VIOLATION (R113, R120). -/
theorem refused_of_judge {cause : ViolationCause} {x : Subject} (hv : s.judge n addr kind = .refuse cause)
    (hx : s.violationSubject addr = x) :
    s.decision (s.judge n addr kind) = .refuse ∧
      Posted s (s.checkCycle n addr kind) [(n, x, .violation kind cause)] :=
  ⟨by rw [hv, State.decision], posted_checkCycle hv hx⟩

end

/-- Settles O45: test by test, each by the verdict it gives. -/
theorem cycleDecidedByTests : Obligations.CycleDecidedByTests := by
  unfold Obligations.CycleDecidedByTests
  intro s n addr kind width hpor haddr
  refine ⟨_, _, exec_cycleCheck hpor haddr n kind width, inHand_checkCycle s n addr kind,
    fun ha => refused_of_judge (judge_inactive ha) rfl, fun ha => ⟨fun hd => ?_, fun w hd => ?_⟩⟩
  · exact refused_of_judge (judge_unmapped ha hd) (by rw [State.violationSubject, hd])
  have hx : s.violationSubject addr = .window w := by rw [State.violationSubject, hd]
  refine ⟨fun hw => refused_of_judge (judge_closed ha hd hw) hx, fun hw => ?_⟩
  have held {k : AccessKind} {v : Verdict} (h : s.judgeHolder n w k = v) : s.judge n addr k = v :=
    (judge_mapped ha hd hw).trans h
  have foreign {k : AccessKind} {v : Verdict} (hr : s.holdOf n w = none) (h : s.judgeForeign w k = v) :
      s.judge n addr k = v := held ((judgeHolder_none hr).trans h)
  refine ⟨fun r hr hm => ?_, ?_, ?_, fun hr => ⟨fun hf => ?_, fun hf => ?_, ?_, ?_⟩⟩
  · rw [held (judgeHolder_exclusive hr hm), State.decision]
  · rintro r hr - rfl
    rw [held (judgeHolder_read hr), State.decision]
  · rintro r hr hm rfl
    exact refused_of_judge (held (judgeHolder_sharedWrite hr hm)) hx
  · exact refused_of_judge (foreign hr (judgeForeign_refuse hf)) hx
  · rw [foreign hr (judgeForeign_holdoff hf), State.decision]
  · rintro hf rfl
    rw [foreign hr (judgeForeign_read hf), State.decision]
  · rintro hf rfl
    exact refused_of_judge (foreign hr (judgeForeign_write (by simp [hf]))) hx

/-! ### Writes that pass (R116) -/

section
variable {s : State} {n : SlotId} {addr : Word} {w : WindowId} {r : RecordId} {target : TargetId}

/-- A write passes at test 4 alone: its ACTIVE initiator holds the window EXCLUSIVE (R112, R116). -/
theorem write_passes {t : State} {width : Nat} (hpor : s.porAsserted = false) (haddr : inSharedSpace addr = true)
    (e : exec (.cycleCheck n addr .write width) s = .next t) (h : t.inHand = some (.pass target)) :
    ∃ w r, s.decodeAddress addr = some w ∧ target = (s.window w).target ∧ (s.slot n).state = .active ∧
      s.isHoldOn w r = true ∧ (s.record r).slot = n ∧ (s.record r).mode = .exclusive := by
  rw [exec_cycleCheck hpor haddr] at e
  cases e
  rw [inHand_checkCycle, Option.some.injEq] at h
  by_cases ha : (s.slot n).state = .active
  swap
  · simp [judge_inactive ha, State.decision] at h
  cases hd : s.decodeAddress addr with
  | none => simp [judge_unmapped ha hd, State.decision] at h
  | some w =>
    by_cases hw : (s.window w).state = .closed
    · simp [judge_closed ha hd hw, State.decision] at h
    rw [judge_mapped ha hd hw] at h
    cases hr : s.holdOf n w with
    | none =>
      rw [judgeHolder_none hr] at h
      by_cases hf : (s.window w).foreign = .holdoff
      · simp [judgeForeign_holdoff hf, State.decision] at h
      · simp [judgeForeign_write hf, State.decision] at h
    | some r =>
      obtain ⟨hhold, hwindow, hslot⟩ := holdOf_some hr
      cases hm : (s.record r).mode with
      | shared => simp [judgeHolder_sharedWrite hr hm, State.decision] at h
      | exclusive =>
        rw [judgeHolder_exclusive hr hm, State.decision, Decision.pass.injEq] at h
        exact ⟨w, r, rfl, h.symm, ha, isHoldOn_iff.mpr ⟨hhold, hwindow⟩, hslot, hm⟩

/-- An EXCLUSIVE hold is the only hold on its window (R26). -/
theorem HoldersLawful.eq_of_exclusive {q : RecordId} (h : HoldersLawful s) (hr : s.isHoldOn w r = true)
    (hq : s.isHoldOn w q = true) (hm : (s.record r).mode = .exclusive) : q = r := by
  obtain ⟨hrphase, hrw⟩ := isHoldOn_iff.mp hr
  obtain ⟨hqphase, hqw⟩ := isHoldOn_iff.mp hq
  by_contra hne
  obtain ⟨-, hshared⟩ := h q r hne hqphase hrphase (hqw.trans hrw.symm)
  exact Mode.noConfusion (hm.symm.trans hshared)

end

/-- Settles O47: both writes pass by an EXCLUSIVE hold on the window, and there is only one. -/
theorem writesPassForExclusiveHolderAlone : Obligations.WritesPassForExclusiveHolderAlone := by
  unfold Obligations.WritesPassForExclusiveHolderAlone
  intro s t n addr width target hpor haddr e h
  obtain ⟨w, r, hd, htarget, ha, hhold, hslot, hmode⟩ := write_passes hpor haddr e h
  refine ⟨w, r, hd, htarget, ha, hhold, hslot, hmode, fun hlaw u m addr' width' target' haddr' hd' e' h' => ?_⟩
  obtain ⟨v, q, hdv, -, -, hqhold, hqslot, -⟩ := write_passes hpor haddr' e' h'
  obtain rfl : w = v := Option.some.inj (hd'.symm.trans hdv)
  rw [← hqslot, hlaw.eq_of_exclusive hhold hqhold hmode, hslot]

end Sys2Proof.Machine
end

section
/-! SUPPORT. The standing laws of slots, role, queues, FIFOs and backplane under the shared operations, exit processing
and the ticks (R127 to R129, R135, R144, R149). -/

namespace Sys2Proof.Machine

/-! ### Changes that keep the laws -/

/-- Each of the five standing laws that holds before the change holds after it. -/
structure LawsKept (s t : State) : Prop where
  queues : QueuesLawful s → QueuesLawful t
  fifos : FifosLawful s → FifosLawful t
  role : RoleLawful s → RoleLawful t
  slots : SlotsLawful s → SlotsLawful t
  backplane : BackplaneLawful s → BackplaneLawful t

/-- The slot is not ABSENT and its response FIFO has room, so a command taken from it can be answered (R161, R162). -/
def State.Answerable (s : State) (c : SlotId) : Prop :=
  (s.slot c).state ≠ .absent ∧ (s.port c).responses.length < Config.fifoDepth

/-- The change keeps the standing laws, and a slot whose command is taken can still be answered after it: no slot is
removed and no response is pushed. -/
structure Orderly (s t : State) : Prop extends LawsKept s t where
  answerable : ∀ c, s.Answerable c → t.Answerable c

/-- What the standing laws read of a state. -/
def State.standing (s : State) : Vector SlotRecord 8 × Vector SlotPort 8 × Vector (List Notice) 8 × Option SlotId ×
    Option Decision × PortAnswer × Bool :=
  (s.slots, s.ports, s.notices, s.master, s.inHand, s.portAnswer, s.porAsserted)

/-- The standing law of one slot record (R127). -/
def SlotRecord.lawful (x : SlotRecord) : Prop := (x.state ≠ .active → x.silence = 0) ∧ 1 ≤ x.quota ∧ x.quota ≤ 64

section
variable {s t u : State} {n : SlotId}

theorem LawsKept.trans (h : LawsKept s t) (k : LawsKept t u) : LawsKept s u :=
  ⟨k.queues ∘ h.queues, k.fifos ∘ h.fifos, k.role ∘ h.role, k.slots ∘ h.slots, k.backplane ∘ h.backplane⟩

/-- A change of nothing that the laws read, such as the tables, the clock and the waiting commands. -/
theorem Orderly.of_standing (h : t.standing = s.standing) : Orderly s t := by
  obtain ⟨hslots, hports, hnotices, hmaster, hhand, hanswer, hpor⟩ :
      t.slots = s.slots ∧ t.ports = s.ports ∧ t.notices = s.notices ∧ t.master = s.master ∧ t.inHand = s.inHand ∧
        t.portAnswer = s.portAnswer ∧ t.porAsserted = s.porAsserted := by
    simpa [State.standing] using h
  have hslot (n : SlotId) : t.slot n = s.slot n := by simp only [State.slot, hslots]
  have hport (n : SlotId) : t.port n = s.port n := by simp only [State.port, hports]
  have hqueue (n : SlotId) : t.queue n = s.queue n := by simp only [State.queue, hnotices]
  constructor
  · constructor <;>
      simp only [QueuesLawful, FifosLawful, RoleLawful, SlotsLawful, BackplaneLawful, hslot, hport, hqueue, hmaster, hhand,
        hanswer, hpor, imp_self]
  · simp only [State.Answerable, hslot, hport, imp_self, implies_true]

theorem LawsKept.of_standing (h : t.standing = s.standing) : LawsKept s t := (Orderly.of_standing h).toLawsKept

theorem Orderly.refl (s : State) : Orderly s s := .of_standing rfl

theorem Orderly.trans (h : Orderly s t) (k : Orderly t u) : Orderly s u :=
  ⟨h.toLawsKept.trans k.toLawsKept, fun c hc => k.answerable c (h.answerable c hc)⟩

/-- A change of nothing that the laws read comes first. -/
theorem Orderly.after (k : Orderly t u) (h : t.standing = s.standing) : Orderly s u := (of_standing h).trans k

theorem Orderly.foldl {α : Type} {f : State → α → State} (h : ∀ s a, Orderly s (f s a)) (l : List α) (s : State) :
    Orderly s (l.foldl f s) := foldl_keeps (fun _ a ht => ht.trans (h _ a)) l s (.refl s)

/-! ### One slot's record, port or queue -/

/-- One slot's queue changes to one that is lawful if the old one was. -/
theorem Orderly.setQueue {q : List Notice} (hnodup : ((s.queue n).map Notice.subject).Nodup →
    (q.map Notice.subject).Nodup) (habsent : (s.slot n).state = .absent → s.queue n = [] → q = []) :
    Orderly s (s.setQueue n q) where
  queues h m := by
    by_cases hm : m = n
    · subst hm
      simpa using ⟨hnodup (h m).1, fun ha => habsent ha ((h m).2 ha)⟩
    · simpa [hm] using h m
  fifos h := h
  role h := h
  slots h := h
  backplane h := h
  answerable _ h := h

/-- One slot's port changes: its command FIFO stays within its bounds, and its response FIFO does not grow. -/
theorem Orderly.setPort {x : SlotPort}
    (hcommands : FifosLawful s → x.commands.length ≤ Config.fifoDepth ∧ ((s.slot n).state = .absent → x.commands = []))
    (hresponses : x.responses.length ≤ (s.port n).responses.length) : Orderly s (s.setPort n x) where
  queues h := h
  fifos h m := by
    by_cases hm : m = n
    · subst hm
      obtain ⟨-, hlength, hempty⟩ := h m
      obtain ⟨hbound, hnone⟩ := hcommands h
      have hgone : (s.slot m).state = .absent → x.responses = [] := fun ha => by
        simpa [(hempty ha).2] using hresponses
      simpa using ⟨hbound, hresponses.trans hlength, fun ha => ⟨hnone ha, hgone ha⟩⟩
    · simpa [hm] using h m
  role h := h
  slots h := h
  backplane h := h
  answerable c h := by
    by_cases hc : c = n
    · subst hc
      exact ⟨h.1, by simpa using hresponses.trans_lt h.2⟩
    · simpa [State.Answerable, hc] using h

/-- One slot's port changes, and neither FIFO grows. -/
theorem Orderly.setPort_of_le {x : SlotPort} (hcommands : x.commands.length ≤ (s.port n).commands.length)
    (hresponses : x.responses.length ≤ (s.port n).responses.length) : Orderly s (s.setPort n x) :=
  .setPort (fun h => ⟨hcommands.trans (h n).1, fun ha => by simpa [((h n).2.2 ha).1] using hcommands⟩) hresponses

/-- One slot's record changes, and the laws that bind it to its queue, its FIFOs and the role stay with it. -/
theorem LawsKept.setSlot {x : SlotRecord} (hqueue : x.state = .absent → QueuesLawful s → s.queue n = [])
    (hfifos : x.state = .absent → FifosLawful s → (s.port n).commands = [] ∧ (s.port n).responses = [])
    (hrole : RoleLawful s → s.master = some n → x.state = .active) (hlawful : (s.slot n).lawful → x.lawful) :
    LawsKept s (s.setSlot n x) where
  queues h m := by
    by_cases hm : m = n
    · subst hm
      exact ⟨(h m).1, fun ha => hqueue (by simpa using ha) h⟩
    · simpa [hm] using h m
  fifos h m := by
    by_cases hm : m = n
    · subst hm
      obtain ⟨hcommands, hresponses, -⟩ := h m
      exact ⟨hcommands, hresponses, fun ha => hfifos (by simpa using ha) h⟩
    · simpa [hm] using h m
  role h m hm := by
    by_cases hn : m = n
    · subst hn
      simpa using hrole h hm
    · simpa [hn] using h m hm
  slots h m := by
    by_cases hm : m = n
    · subst hm
      rw [State.slot_setSlot, if_pos rfl]
      exact hlawful (h m)
    · simpa [hm] using h m
  backplane h := h

theorem answerable_setSlot {x : SlotRecord} (h : x.state = .absent → (s.slot n).state = .absent) (c : SlotId)
    (hc : s.Answerable c) : (s.setSlot n x).Answerable c := by
  by_cases hn : c = n
  · subst hn
    exact ⟨fun ha => hc.1 (h (by simpa using ha)), hc.2⟩
  · simpa [State.Answerable, hn] using hc

/-- One slot's record changes: it is not removed, it stays ACTIVE if it was, and it stays lawful. -/
theorem Orderly.setSlot {x : SlotRecord} (habsent : x.state = .absent → (s.slot n).state = .absent)
    (hactive : (s.slot n).state = .active → x.state = .active) (hlawful : (s.slot n).lawful → x.lawful) :
    Orderly s (s.setSlot n x) where
  toLawsKept := .setSlot (fun ha h => (h n).2 (habsent ha)) (fun ha h => (h n).2.2 (habsent ha))
    (fun h hm => hactive (h n hm)) hlawful
  answerable := answerable_setSlot habsent

/-! ### Notices and the role -/

/-- A post folds into the standing notice on its subject, and reaches no ABSENT slot (R148, R149). -/
theorem post_orderly (s : State) (n : SlotId) (x : Subject) (b : NoticeBody) : Orderly s (s.post n x b) := by
  unfold State.post
  split
  · exact .refl s
  · next ha =>
    refine .setQueue (fun h => ?_) fun h => absurd h ha
    rw [enqueueNotice_subjects]
    split
    · exact h
    · next hx => exact List.nodup_append.mpr ⟨h, by simp, fun y hy z hz => by
        rw [List.mem_singleton.mp hz]
        exact fun he => hx (he ▸ hy)⟩

theorem postToMaster_orderly (s : State) (except : Option SlotId) (x : Subject) (b : NoticeBody) :
    Orderly s (s.postToMaster except x b) := by
  obtain ⟨h, -⟩ | ⟨m, -, -, h, -⟩ := postToMaster_cases s except x b
  · rw [h]
    exact .refl s
  · rw [h]
    exact post_orderly ..

theorem reportSlotChange_orderly (s : State) (n : SlotId) : Orderly s (s.reportSlotChange n) := postToMaster_orderly ..

theorem tellVacant_orderly (s : State) (m : SlotId) : Orderly s (s.tellVacant m) := by
  unfold State.tellVacant
  split
  · exact post_orderly ..
  · exact .refl s

/-- The role falls vacant, or goes to an ACTIVE slot (R135, R140, R141). -/
theorem setMaster_orderly {x : Option SlotId} (h : ∀ n, x = some n → (s.slot n).state = .active) :
    Orderly s (s.setMaster x) where
  queues h := h
  fifos h := h
  role _ := h
  slots h := h
  backplane h := h
  answerable _ h := h

end

/-- A master that stops leaves the role vacant (R135 step 5). -/
theorem exitRole_orderly (s : State) (n : SlotId) : Orderly s (s.exitRole n) := by
  unfold State.exitRole
  split
  · exact (setMaster_orderly (x := none) nofun).trans (.foldl tellVacant_orderly ..)
  · exact .refl s

/-! ### The Claim Table's procedures (R34, R35, R46 to R48, R95, R102) -/

theorem grant_orderly (s : State) (r : RecordId) : Orderly s (s.grant r) :=
  (post_orderly ..).after rfl

theorem grantBatch_orderly : ∀ (l : List RecordId) (s : State), Orderly s (s.grantBatch l)
  | [], s => .refl s
  | r :: l, s => by
    unfold State.grantBatch
    split
    · exact (grant_orderly s r).trans (grantBatch_orderly l _)
    · exact .refl s

theorem completeUpgrade_orderly (s : State) (w : WindowId) (r : RecordId) : Orderly s (s.completeUpgrade w r) :=
  (post_orderly ..).after rfl

theorem grantSteps_orderly (s : State) (w : WindowId) : Orderly s (s.grantSteps w) := by
  unfold State.grantSteps
  split
  · split
    · split
      · exact completeUpgrade_orderly ..
      · exact .refl s
    · exact .refl s
  · split
    · exact .refl s
    · split
      · split
        · exact grant_orderly ..
        · exact .refl s
      · split
        · exact grantBatch_orderly ..
        · exact .refl s

theorem grantPass_orderly (s : State) (w : WindowId) : Orderly s (s.grantPass w) := by
  unfold State.grantPass
  split
  · exact grantSteps_orderly ..
  · exact .refl s

theorem lastHoldRetired_orderly (s : State) (w : WindowId) (x : Option SlotId) : Orderly s (s.lastHoldRetired w x) := by
  unfold State.lastHoldRetired
  split
  · exact (postToMaster_orderly ..).after rfl
  · exact .of_standing rfl

theorem followUps_orderly (s : State) (w : WindowId) (held : Bool) (x : Option SlotId) :
    Orderly s (s.followUps w held x) := by
  unfold State.followUps
  split
  · exact (lastHoldRetired_orderly ..).trans (grantPass_orderly ..)
  · exact grantPass_orderly ..

theorem retireAlone_orderly (s : State) (r : RecordId) (x : Option SlotId) : Orderly s (s.retireAlone r x) :=
  (followUps_orderly ..).after rfl

theorem exitRecords_orderly (s : State) (n : SlotId) : Orderly s (s.exitRecords n) := by
  refine .foldl (fun t w => ?_) allWindows s
  unfold State.exitWindow
  split
  · exact .refl t
  · exact retireAlone_orderly ..

theorem recallHolds_orderly (s : State) (w : WindowId) (u : Option SlotId) : Orderly s (s.recallHolds w u) := by
  refine .foldl (fun t r => ?_) (s.holders w) s
  unfold State.recallHold
  split
  · exact .refl t
  · exact (post_orderly ..).after rfl

theorem closeOpen_orderly (s : State) (w : WindowId) : Orderly s (s.closeOpen w) := by
  unfold State.closeOpen
  extract_lets u s1 src s2
  have h1 : Orderly s s1 := .foldl (fun t r => (post_orderly (t.retire r) ..).after rfl) _ s
  have h2 : Orderly s s2 := h1.trans (.of_standing rfl)
  split
  · exact h2.trans ((postToMaster_orderly ..).after rfl)
  · exact (h2.trans (recallHolds_orderly s2 w u)).trans (.of_standing rfl)

theorem placeGiven_orderly (s : State) (w : WindowId) (b : Option SlotId) : Orderly s (s.placeGiven w b).1 := by
  unfold State.placeGiven State.placeBeneficiary
  repeat' split
  all_goals exact .of_standing rfl

theorem expire_orderly (s : State) (r : RecordId) : Orderly s (s.expire r) := by
  unfold State.expire
  extract_lets c
  split
  · exact .refl s
  all_goals exact (post_orderly ..).after rfl

theorem tickWindow_orderly (s : State) (w : WindowId) : Orderly s (s.tickWindow w) := by
  unfold State.tickWindow
  extract_lets due s2
  have h2 : Orderly s s2 := (Orderly.foldl expire_orderly _ (s.countWindow w)).after rfl
  split
  · exact h2.trans (followUps_orderly ..)
  · exact h2

theorem lastTick_orderly (s : State) (r : RecordId) (phase : ClaimPhase) : Orderly s (s.lastTick r phase) := by
  unfold State.lastTick
  extract_lets c
  split
  · split
    · exact expire_orderly ..
    · exact (expire_orderly ..).trans (followUps_orderly ..)
  · exact .refl s

/-! ### A slot's port is emptied (R129, R130, R135 step 3) -/

theorem emptyQueue_orderly (s : State) (n : SlotId) : Orderly s (s.emptyQueue n) :=
  (Orderly.setQueue (q := []) (fun _ => List.nodup_nil) fun _ _ => rfl).trans (.setPort_of_le le_rfl le_rfl)

theorem clearPort_orderly (s : State) (n : SlotId) : Orderly s (s.clearPort n) :=
  (emptyQueue_orderly s n).trans (.setPort_of_le (Nat.zero_le _) (Nat.zero_le _))

theorem clearPortAndParams_orderly (s : State) (n : SlotId) : Orderly s (s.clearPortAndParams n) :=
  (clearPort_orderly s n).trans (.setPort_of_le le_rfl le_rfl)

theorem exitPort_orderly (s : State) (n : SlotId) (reason : ExitReason) : Orderly s (s.exitPort n reason) := by
  cases reason with
  | none => exact .refl s
  | left => exact emptyQueue_orderly ..
  | silent | evicted => exact (emptyQueue_orderly ..).trans (post_orderly ..)
  | reset => exact clearPortAndParams_orderly ..
  | removed => exact clearPort_orderly ..

/-! ### A slot stops taking part (R129, R130, R135) -/

/-- The slot stops taking part: its standing, and then its queue and port, by the reason (R135 steps 2 and 3). -/
def State.stop (s : State) (n : SlotId) (reason : ExitReason) : State := (s.leaveActive n reason).exitPort n reason

section
variable {s : State} {n : SlotId} {reason : ExitReason}

/-- A slot that is not master leaves; a removed one has its queue and FIFOs emptied first. -/
theorem leaveActive_lawsKept (hm : RoleLawful s → s.master ≠ some n)
    (hr : reason = .removed → s.queue n = [] ∧ (s.port n).commands = [] ∧ (s.port n).responses = []) :
    LawsKept s (s.leaveActive n reason) := by
  have hremoved (h : (if reason = .removed then SlotState.absent else .present) = .absent) : reason = .removed := by
    by_contra hne
    simp [hne] at h
  refine .setSlot (fun ha _ => (hr (hremoved ha)).1) (fun ha _ => (hr (hremoved ha)).2) (fun h hn => absurd hn (hm h))
    fun h => ⟨fun _ => rfl, h.2⟩

theorem stop_orderly (hr : reason ≠ .removed) (hm : RoleLawful s → s.master ≠ some n) :
    Orderly s (s.stop n reason) := by
  have hleave : Orderly s (s.leaveActive n reason) :=
    ⟨leaveActive_lawsKept hm fun h => absurd h hr, answerable_setSlot fun h => by simp [hr] at h⟩
  exact hleave.trans (exitPort_orderly ..)

/-- A removed slot's queue and FIFOs are emptied as it becomes ABSENT (R129). -/
theorem stop_lawsKept (reason : ExitReason) (hm : RoleLawful s → s.master ≠ some n) : LawsKept s (s.stop n reason) := by
  by_cases hr : reason = .removed
  · subst hr
    have hfirst : s.stop n .removed = (s.clearPort n).leaveActive n .removed := rfl
    rw [hfirst]
    exact (clearPort_orderly s n).toLawsKept.trans
      (leaveActive_lawsKept hm fun _ => by simp [queue_clearPort, port_clearPort])
  · exact (stop_orderly hr hm).toLawsKept

theorem setMaster_post (s : State) (n : SlotId) (x : Subject) (b : NoticeBody) (m : Option SlotId) :
    (s.post n x b).setMaster m = (s.setMaster m).post n x b :=
  apply_ite (fun t : State => t.setMaster m) _ _ _

theorem master_stop : (s.stop n reason).master = s.master := by
  cases reason with
  | none | left | reset | removed => rfl
  | silent | evicted => exact (post_beside ..).role.master

theorem setMaster_stop (x : Option SlotId) : (s.stop n reason).setMaster x = (s.setMaster x).stop n reason := by
  cases reason with
  | none | left | reset | removed => rfl
  | silent | evicted => exact setMaster_post ..

end

/-- The stopped slot is reported to the master, unless it was evicted, and vacates the role (R135 steps 4 and 5). -/
theorem exit_eq (s : State) (n : SlotId) (reason : ExitReason) :
    s.exit n reason =
      State.exitRole (if reason = .evicted then (s.exitRecords n).stop n reason
        else ((s.exitRecords n).stop n reason).reportSlotChange n) n := rfl

/-- A master's own exit is not reported, and its role is told vacant (R135, R137). -/
theorem exit_of_master {s : State} {n : SlotId} (reason : ExitReason) (hm : (s.exitRecords n).master = some n) :
    s.exit n reason = allSlots.foldl State.tellVacant (((s.exitRecords n).setMaster none).stop n reason) := by
  have hmaster : ((s.exitRecords n).stop n reason).master = some n := master_stop.trans hm
  have hquiet : ((s.exitRecords n).stop n reason).reportSlotChange n = (s.exitRecords n).stop n reason := by
    simp [State.reportSlotChange, State.postToMaster, hmaster]
  rw [exit_eq, hquiet, ite_self, State.exitRole, if_pos hmaster, setMaster_stop]

/-- Exit processing stops a slot that is no longer master: before it the slot's records are retired, and the role, if the
slot held it, is vacated; after it nothing but notices remains (R135). -/
theorem exit_stops (s : State) (n : SlotId) (reason : ExitReason) :
    ∃ u, Orderly s u ∧ u.master ≠ some n ∧ Orderly (u.stop n reason) (s.exit n reason) := by
  have hrecords := exitRecords_orderly s n
  by_cases hm : (s.exitRecords n).master = some n
  · refine ⟨(s.exitRecords n).setMaster none, hrecords.trans (setMaster_orderly (x := none) nofun), nofun, ?_⟩
    rw [exit_of_master reason hm]
    exact .foldl tellVacant_orderly ..
  · refine ⟨s.exitRecords n, hrecords, hm, ?_⟩
    rw [exit_eq]
    split
    · exact exitRole_orderly ..
    · exact (reportSlotChange_orderly ..).trans (exitRole_orderly ..)

/-- Exit processing keeps the standing laws (R135). -/
theorem exit_lawsKept (s : State) (n : SlotId) (reason : ExitReason) : LawsKept s (s.exit n reason) := by
  obtain ⟨u, hbefore, hm, hafter⟩ := exit_stops s n reason
  exact (hbefore.toLawsKept.trans (stop_lawsKept reason fun _ => hm)).trans hafter.toLawsKept

theorem exit_orderly {reason : ExitReason} (hr : reason ≠ .removed) (s : State) (n : SlotId) :
    Orderly s (s.exit n reason) := by
  obtain ⟨u, hbefore, hm, hafter⟩ := exit_stops s n reason
  exact (hbefore.trans (stop_orderly hr fun _ => hm)).trans hafter

/-! ### The silence counters (R122, R134, R139) -/

theorem reloadSilence_orderly (s : State) (n : SlotId) : Orderly s (s.reloadSilence n) := by
  unfold State.reloadSilence
  split
  · next ha => exact .setSlot id id fun h => ⟨fun hne => absurd ha hne, h.2⟩
  · exact .refl s

theorem selectTick_orderly (s : State) (select : Fin 4) : Orderly s (s.selectTick select) := by
  rw [selectTick_eq]
  exact .of_standing rfl

theorem tickSlot_orderly (s : State) (n : SlotId) : Orderly s (s.tickSlot n) := by
  unfold State.tickSlot
  split
  · next ha =>
    split
    · exact exit_orderly (by decide) ..
    · exact .setSlot id id fun h => ⟨fun hne => absurd ha hne, h.2⟩
  · exact .refl s

theorem tickSlots_orderly (s : State) : Orderly s s.tickSlots := by
  unfold State.tickSlots
  split
  · exact .refl s
  · exact .foldl tickSlot_orderly ..

theorem lastSilence_orderly (s : State) (n : SlotId) : Orderly s (s.lastSilence n) := by
  unfold State.lastSilence
  split
  · exact exit_orderly (by decide) ..
  · exact .refl s

theorem refclk_orderly (s : State) : Orderly s s.refclk := by
  unfold State.refclk
  repeat' split
  all_goals exact .of_standing rfl

/-! ### The input lines (R129, R130) -/

theorem rise_orderly (s : State) (n : SlotId) : Orderly s (s.rise n) := by
  unfold State.rise
  split
  · next ha =>
    have hslot : Orderly s (s.setSlot n { s.slot n with state := .present }) :=
      .setSlot nofun (fun h => by simp [ha] at h) fun h => ⟨fun _ => h.1 (by simp [ha]), h.2⟩
    exact hslot.trans (reportSlotChange_orderly ..)
  · exact .refl s

/-- A PRESENT slot is stopped, and the master told; it is not the master itself (R128 to R130). -/
theorem stop_reported_lawsKept {s : State} {n : SlotId} (h : (s.slot n).state = .present) (reason : ExitReason) :
    LawsKept s ((s.stop n reason).reportSlotChange n) :=
  (stop_lawsKept reason fun hrole hm => by simp [hrole n hm] at h).trans (reportSlotChange_orderly ..).toLawsKept

theorem fall_lawsKept (s : State) (n : SlotId) : LawsKept s (s.fall n) := by
  unfold State.fall
  split
  · exact exit_lawsKept ..
  · next h => exact stop_reported_lawsKept h .removed
  · exact (Orderly.refl s).toLawsKept

theorem slotReset_lawsKept (s : State) (n : SlotId) : LawsKept s (s.slotReset n) := by
  unfold State.slotReset
  split
  · exact exit_lawsKept ..
  · next h => exact stop_reported_lawsKept h .reset
  · exact (Orderly.refl s).toLawsKept

/-! ### The resets (R144, R145) -/

theorem backplaneReset_lawsKept (s : State) : LawsKept s s.backplaneReset where
  queues _ n := by simp [queue_backplaneReset]
  fifos _ n := by simp [port_backplaneReset, SlotPort.cleared]
  role _ := nofun
  slots h n := by
    rw [slot_backplaneReset, inactiveByReset_eq]
    split
    · exact ⟨fun _ => rfl, (h n).2⟩
    · exact h n
  backplane h := ⟨.inl rfl, fun hp => ⟨rfl, (h.2 hp).2⟩⟩

/-- The state that POR# leaves keeps the laws, whatever the state before (R144). -/
theorem powerOn_lawsKept (s : State) (pres elig : BitVec 8) : LawsKept s (State.powerOn pres elig) where
  queues _ n := by simp
  fifos _ n := by simp [SlotPort.cleared]
  role _ := nofun
  slots _ n := by simp [SlotRecord.powerOn]
  backplane _ := ⟨.inl rfl, nofun⟩

theorem porAsserted_lawsKept (s : State) :
    LawsKept s { s with porAsserted := true, inHand := none, portAnswer := .idle } :=
  ⟨id, id, id, id, fun _ => ⟨.inl rfl, fun _ => ⟨rfl, rfl⟩⟩⟩

/-! ### Cycles on the backplane (R111, R144, R157) -/

section
variable {s : State} {n : SlotId}

/-- One cycle at a time is answered, and none while POR# is asserted (R111, R144). -/
theorem answerPort_orderly (h : s.porAsserted = false) (a : PortAnswer) : Orderly s (s.answerPort a) :=
  ⟨⟨id, id, id, id, fun _ => ⟨.inl rfl, fun hp => absurd (h.symm.trans hp) nofun⟩⟩, fun _ => id⟩

theorem takeInHand_orderly (h : s.porAsserted = false) (d : Decision) : Orderly s (s.takeInHand d) :=
  ⟨⟨id, id, id, id, fun _ => ⟨.inr rfl, fun hp => absurd (h.symm.trans hp) nofun⟩⟩, fun _ => id⟩

theorem endCycle_orderly (s : State) : Orderly s s.endCycle :=
  ⟨⟨id, id, id, id, fun _ => ⟨.inl rfl, fun _ => ⟨rfl, rfl⟩⟩⟩, fun _ => id⟩

theorem judged_orderly (s : State) (n : SlotId) (addr : Word) (kind : AccessKind) (v : Verdict) :
    Orderly s (s.judged n addr kind v) := by
  cases v with
  | passHolder w r =>
    rw [State.judged]
    obtain h | h := renewByAccess_cases s w r <;> rw [h]
    · exact .refl s
    · exact .of_standing rfl
  | passForeign | holdOff => exact .refl s
  | refuse => exact post_orderly ..

theorem checkCycle_orderly (h : s.porAsserted = false) (n : SlotId) (addr : Word) (kind : AccessKind) :
    Orderly s (s.checkCycle n addr kind) := by
  have hpor := (checkCycle_frame s n addr kind).porAsserted.trans h
  rw [checkCycle_eq] at hpor ⊢
  have hjudged := (reloadSilence_orderly s n).trans (judged_orderly _ n addr kind (s.judge n addr kind))
  exact hjudged.trans (takeInHand_orderly (s := State.judged ..) hpor _)

/-! ### Control-block cycles (R151, R152, R154, R157 to R160, R163) -/

/-- An access that changes one slot's port or queue, and is accepted. -/
theorem Orderly.acceptAccess {t : State} (k : Orderly s t) (h : t.porAsserted = false) (data : Word) :
    Orderly s (t.acceptAccess data) := k.trans (answerPort_orderly h _)

theorem popResponse_orderly (s : State) (n : SlotId) : Orderly s (s.popResponse n) := .setPort_of_le le_rfl (by simp)

theorem popNotice_orderly (s : State) (n : SlotId) : Orderly s (s.popNotice n) := by
  refine .setQueue (fun h => ?_) fun _ h => by rw [h, List.tail_nil]
  rw [List.map_tail]
  exact h.tail

theorem writeAttn_orderly (s : State) (n : SlotId) (value : Word) : Orderly s (s.writeAttn n value) :=
  .setPort_of_le le_rfl le_rfl

theorem presentNotice_orderly (s : State) (n : SlotId) : Orderly s (s.presentNotice n) := .setPort_of_le le_rfl le_rfl

/-- A command joins a FIFO that is not full, of a slot that is not ABSENT (R160). -/
theorem pushCommand_orderly (ha : (s.slot n).state ≠ .absent) (hfull : ¬s.commandsFull n = true) (value : Word) :
    Orderly s (s.pushCommand n value) := by
  refine .setPort (fun _ => ⟨?_, fun h => absurd h ha⟩) le_rfl
  simpa [State.commandsFull] using hfull

theorem writePort_orderly (hpor : s.porAsserted = false) (ha : (s.slot n).state ≠ .absent) (offset : Nat)
    (value : Word) : Orderly s (s.writePort n offset value) := by
  unfold State.writePort
  split
  · exact (writeAttn_orderly ..).acceptAccess hpor 0
  · exact (Orderly.setPort_of_le (x := { s.port n with param0 := value }) le_rfl le_rfl).acceptAccess hpor 0
  · exact (Orderly.setPort_of_le (x := { s.port n with param1 := value }) le_rfl le_rfl).acceptAccess hpor 0
  · exact (Orderly.setPort_of_le (x := { s.port n with param2 := value }) le_rfl le_rfl).acceptAccess hpor 0
  · split
    · exact answerPort_orderly hpor _
    · next hfull => exact (pushCommand_orderly ha hfull value).acceptAccess hpor 0
  · exact (popResponse_orderly ..).acceptAccess hpor 0
  · exact (popNotice_orderly ..).acceptAccess hpor 0
  · exact answerPort_orderly hpor _

/-- A read changes the holding word at most (R151). -/
theorem readPort_orderly (hpor : s.porAsserted = false) (n : SlotId) (offset : Nat) :
    Orderly s (s.readPort n offset) := by
  unfold State.readPort
  split
  case h_11 => exact (presentNotice_orderly ..).acceptAccess hpor _
  all_goals exact answerPort_orderly hpor _

/-- A control-block cycle that is taken is of a slot that is not ABSENT, while POR# is not asserted (R144, R157). -/
theorem portCycle_orderly (s : State) {access : State → State}
    (h : ∀ t : State, t.porAsserted = false → (t.slot n).state ≠ .absent → Orderly t (access t)) :
    Orderly s (s.portCycle n access) := by
  unfold State.portCycle
  split
  · exact .refl s
  · next hp =>
    have hpor : s.porAsserted = false := by simpa using hp
    split
    · exact answerPort_orderly hpor _
    · next ha =>
      refine (reloadSilence_orderly s n).trans (h _ ?_ ?_)
      · rw [reloadSilence_eq]
        exact hpor
      · rw [(reloadSilence_still s n).state]
        exact ha

end

end Sys2Proof.Machine
end

section
/-! SUPPORT. Every command keeps the standing laws, and so does every step (R111, R127 to R129, R144, R149, R160,
R163). -/

namespace Sys2Proof.Machine

/-! ### The commands -/

section
variable {s : State} (c : SlotId) (e : CommandEntry)

theorem joinCommand_orderly : Orderly s (joinCommand c e s).1 := by
  refine answer_keeps (P := Orderly s) (.refl s) fun _ => ?_
  have hslot : Orderly s (s.setSlot c { s.slot c with
      state := .active, exitReason := .none, identity := e.param0, slotClass := lowByte e.param1,
      silence := s.silenceLimit }) := .setSlot nofun (fun _ => rfl) fun h => ⟨fun hne => absurd rfl hne, h.2⟩
  exact hslot.trans (reportSlotChange_orderly ..)

theorem leaveCommand_orderly : Orderly s (leaveCommand c e s).1 := by
  refine answer_keeps (P := Orderly s) (.refl s) fun _ => ?_
  dsimp only
  exact exit_orderly (by decide) ..

theorem claimCommand_orderly : Orderly s (claimCommand c e s).1 := by
  refine answer_keeps (P := Orderly s) (.refl s) fun _ => ?_
  split
  · exact .refl s
  · refine answer_keeps (P := Orderly s) (.refl s) fun _ => ?_
    split
    · exact .refl s
    · unfold claimEffect
      extract_lets w s1
      split <;> exact (grantPass_orderly ..).after rfl

theorem withdrawCommand_orderly : Orderly s (withdrawCommand c e s).1 := by
  refine answer_keeps (P := Orderly s) (.refl s) fun _ => ?_
  unfold withdrawEffect
  split
  · exact retireAlone_orderly ..
  · exact (grantPass_orderly ..).after rfl

theorem releaseCommand_orderly : Orderly s (releaseCommand c e s).1 :=
  answer_keeps (P := Orderly s) (.refl s) fun _ => onHold_keeps (.refl s) fun r => retireAlone_orderly s r none

theorem renewCommand_orderly : Orderly s (renewCommand c e s).1 :=
  answer_keeps (P := Orderly s) (.refl s) fun _ => onHold_keeps (.refl s) fun _ => .of_standing rfl

theorem upgradeCommand_orderly : Orderly s (upgradeCommand c e s).1 := by
  refine answer_keeps (P := Orderly s) (.refl s) fun _ => onHold_keeps (.refl s) fun r => ?_
  unfold upgradeEffect
  extract_lets y
  split
  · exact (grantPass_orderly ..).after rfl
  · split
    · exact .refl s
    · exact (grantPass_orderly ..).after rfl

theorem downgradeCommand_orderly : Orderly s (downgradeCommand c e s).1 :=
  answer_keeps (P := Orderly s) (.refl s) fun _ => onHold_keeps (.refl s) fun _ => (grantPass_orderly ..).after rfl

theorem transferCommand_orderly : Orderly s (transferCommand c e s).1 := by
  refine answer_keeps (P := Orderly s) (.refl s) fun _ => onHold_keeps (.refl s) fun r => ?_
  unfold transferEffect
  split
  · exact .refl s
  · exact (grant_orderly ..).after rfl

theorem queryWindowCommand_orderly : Orderly s (queryWindowCommand c e s).1 :=
  answer_keeps (P := Orderly s) (.refl s) fun _ => .refl s

theorem querySlotCommand_orderly : Orderly s (querySlotCommand c e s).1 :=
  answer_keeps (P := Orderly s) (.refl s) fun _ => .refl s

/-- The caller that becomes master is ACTIVE (R140). -/
theorem takeMasterCommand_orderly : Orderly s (takeMasterCommand c e s).1 := by
  refine answer_keeps (P := Orderly s) (.refl s) fun hpass => ?_
  have ha : (s.slot c).state = .active := checkActive_eq_false.mp (hpass _ (by simp))
  exact (setMaster_orderly fun _ h => Option.some.inj h ▸ ha).trans (post_orderly ..)

theorem defineCommand_orderly : Orderly s (defineCommand c e s).1 := by
  refine answer_keeps (P := Orderly s) (.refl s) fun _ => ?_
  split
  · exact .refl s
  · exact answer_keeps (P := Orderly s) (.refl s) fun _ => .of_standing rfl

theorem undefineCommand_orderly : Orderly s (undefineCommand c e s).1 :=
  answer_keeps (P := Orderly s) (.refl s) fun _ => .of_standing rfl

theorem openCommand_orderly : Orderly s (openCommand c e s).1 := by
  refine answer_keeps (P := Orderly s) (.refl s) fun _ => ?_
  show Orderly s (s.openEffect _)
  unfold State.openEffect
  split
  · exact (grantPass_orderly ..).after rfl
  · exact .refl s

theorem closeCommand_orderly : Orderly s (closeCommand c e s).1 := by
  refine answer_keeps (P := Orderly s) (.refl s) fun _ => ?_
  show Orderly s (s.closeEffect _)
  unfold State.closeEffect
  split
  · exact closeOpen_orderly ..
  · exact .refl s

theorem recallCommand_orderly : Orderly s (recallCommand c e s).1 := by
  refine answer_keeps (P := Orderly s) (.refl s) fun _ => ?_
  unfold recallEffect
  extract_lets p s1 q
  split
  · exact (placeGiven_orderly ..).trans (grantPass_orderly ..)
  · exact (recallHolds_orderly ..).trans ((placeGiven_orderly ..).after rfl)

theorem evictCommand_orderly : Orderly s (evictCommand c e s).1 := by
  refine answer_keeps (P := Orderly s) (.refl s) fun _ => ?_
  dsimp only
  exact exit_orderly (by decide) ..

/-- The quota that is written is in range (R138). -/
theorem setQuotaCommand_orderly : Orderly s (setQuotaCommand c e s).1 := by
  refine answer_keeps (P := Orderly s) (.refl s) fun hpass => ?_
  have hrange := hpass (!slotInRange e.param0 || !e.quotaInRange, .badParam) (by simp)
  simp only [Bool.or_eq_false_iff, Bool.not_eq_false', CommandEntry.quotaInRange, Bool.and_eq_true,
    decide_eq_true_eq] at hrange
  exact .setSlot id id fun h => ⟨h.1, hrange.2⟩

theorem setEligibleCommand_orderly : Orderly s (setEligibleCommand c e s).1 :=
  answer_keeps (P := Orderly s) (.refl s) fun _ => .of_standing rfl

theorem setTimingCommand_orderly : Orderly s (setTimingCommand c e s).1 := by
  refine answer_keeps (P := Orderly s) (.refl s) fun _ => ?_
  dsimp only
  have hreload : Orderly s (State.reloadAllSilence { s with silenceLimit := e.silenceField }) :=
    (Orderly.foldl reloadSilence_orderly allSlots _).after rfl
  exact hreload.trans (selectTick_orderly ..)

/-- The slot that the role is handed to is ACTIVE (R141). -/
theorem handMasterCommand_orderly : Orderly s (handMasterCommand c e s).1 := by
  refine answer_keeps (P := Orderly s) (.refl s) fun hpass => ?_
  have ha := hpass (decide ((s.slot (slotField e.param0)).state ≠ .active), .slotNotActive) (by simp)
  simp only [decide_eq_false_iff_not, not_not] at ha
  exact ((setMaster_orderly fun _ h => Option.some.inj h ▸ ha).trans (post_orderly ..)).trans (post_orderly ..)

end

/-! ### The take (R161, R162) -/

section
variable {s : State} {c : SlotId} {e : CommandEntry}

theorem popCommand_orderly (s : State) (c : SlotId) : Orderly s (s.popCommand c) := by
  have hport : Orderly s (s.setPort c { s.port c with commands := (s.port c).commands.tail }) :=
    .setPort_of_le (by simp) le_rfl
  exact hport.trans (.of_standing rfl)

/-- The arbiter takes from a slot that it may take from (R161). -/
theorem mayTake_of_nextTake (h : s.nextTake = some (c, e)) : s.mayTake c = true := by
  unfold State.nextTake at h
  split at h
  · cases h
  · next d hd =>
    split at h
    · cases h
    · cases h
      exact List.find?_some hd

/-- An ABSENT slot has no command to take, so the slot that is taken from can be answered (R129, R161). -/
theorem FifosLawful.answerable (hs : FifosLawful s) (h : s.nextTake = some (c, e)) : s.Answerable c := by
  have hmay := mayTake_of_nextTake h
  simp only [State.mayTake, Bool.and_eq_true, Bool.not_eq_true', List.isEmpty_eq_false_iff, decide_eq_true_eq] at hmay
  obtain ⟨hcommands, hroom⟩ := hmay
  exact ⟨fun ha => hcommands ((hs c).2.2 ha).1, hroom⟩

/-- The response is pushed where there is room for it (R162, R163). -/
theorem FifosLawful.pushResponse (hs : FifosLawful s) (hc : s.Answerable c) (y : Reply) :
    FifosLawful (s.pushResponse c e y) := by
  intro n
  obtain ⟨hcommands, hresponses, hempty⟩ := hs n
  rw [port_pushResponse]
  by_cases hn : n = c
  · subst hn
    rw [if_pos rfl]
    refine ⟨hcommands, ?_, fun ha => absurd ha hc.1⟩
    simpa using hc.2
  · rw [if_neg hn]
    exact ⟨hcommands, hresponses, hempty⟩

/-- A whole take keeps the standing laws if its command is orderly (R162). -/
theorem completeTake_lawsKept {f : SlotId → CommandEntry → State → State × Reply} (h : s.nextTake = some (c, e))
    (hf : ∀ {s} c e, Orderly s (f c e s).1) : LawsKept s (s.completeTake c e f) := by
  have hcommand : Orderly s (f c e (s.popCommand c)).1 := (popCommand_orderly s c).trans (hf c e)
  exact ⟨hcommand.queues, fun hs => (hcommand.fifos hs).pushResponse (hcommand.answerable c (hs.answerable h)) _,
    hcommand.role, hcommand.slots, hcommand.backplane⟩

theorem takeWhere_lawsKept (s : State) (isOpcode : BitVec 8 → Bool)
    {f : SlotId → CommandEntry → State → State × Reply} (hf : ∀ {s} c e, Orderly s (f c e s).1) :
    LawsKept s (s.takeWhere isOpcode f) := by
  have hnone : LawsKept s s := (Orderly.refl s).toLawsKept
  unfold State.takeWhere
  repeat' split
  · exact hnone
  · exact hnone
  · next h _ => exact completeTake_lawsKept h hf
  · exact hnone

end

/-! ### The step -/

/-- A row that does nothing in some states, while POR# is asserted or where its address is not the part's. -/
theorem LawsKept.ite {s t : State} {p : Prop} [Decidable p] (h : ¬p → LawsKept s t) :
    LawsKept s (if p then s else t) := by
  split
  · exact (Orderly.refl s).toLawsKept
  · next hp => exact h hp

/-- Each row of the table keeps the standing laws. -/
theorem exec_lawsKept {s t : State} (i : Instr) (e : exec i s = .next t) : LawsKept s t := by
  cases i with
  | join => exact of_next e (takeWhere_lawsKept s _ joinCommand_orderly)
  | leave => exact of_next e (takeWhere_lawsKept s _ leaveCommand_orderly)
  | claim => exact of_next e (takeWhere_lawsKept s _ claimCommand_orderly)
  | withdraw => exact of_next e (takeWhere_lawsKept s _ withdrawCommand_orderly)
  | release => exact of_next e (takeWhere_lawsKept s _ releaseCommand_orderly)
  | renew => exact of_next e (takeWhere_lawsKept s _ renewCommand_orderly)
  | upgrade => exact of_next e (takeWhere_lawsKept s _ upgradeCommand_orderly)
  | downgrade => exact of_next e (takeWhere_lawsKept s _ downgradeCommand_orderly)
  | transfer => exact of_next e (takeWhere_lawsKept s _ transferCommand_orderly)
  | queryWindow => exact of_next e (takeWhere_lawsKept s _ queryWindowCommand_orderly)
  | querySlot => exact of_next e (takeWhere_lawsKept s _ querySlotCommand_orderly)
  | takeMaster => exact of_next e (takeWhere_lawsKept s _ takeMasterCommand_orderly)
  | define => exact of_next e (takeWhere_lawsKept s _ defineCommand_orderly)
  | undefine => exact of_next e (takeWhere_lawsKept s _ undefineCommand_orderly)
  | openWindow => exact of_next e (takeWhere_lawsKept s _ openCommand_orderly)
  | closeWindow => exact of_next e (takeWhere_lawsKept s _ closeCommand_orderly)
  | recallWindow => exact of_next e (takeWhere_lawsKept s _ recallCommand_orderly)
  | evict => exact of_next e (takeWhere_lawsKept s _ evictCommand_orderly)
  | setQuota => exact of_next e (takeWhere_lawsKept s _ setQuotaCommand_orderly)
  | setEligible => exact of_next e (takeWhere_lawsKept s _ setEligibleCommand_orderly)
  | setTiming => exact of_next e (takeWhere_lawsKept s _ setTimingCommand_orderly)
  | handMaster => exact of_next e (takeWhere_lawsKept s _ handMasterCommand_orderly)
  | unknownOpcode => exact of_next e (takeWhere_lawsKept s _ fun _ _ => .refl _)
  | respPop n _ =>
    exact of_next e (portCycle_orderly s fun t h _ => (popResponse_orderly t n).acceptAccess h 0).toLawsKept
  | notice0Read n =>
    exact of_next e (portCycle_orderly s fun t h _ => (presentNotice_orderly t n).acceptAccess h _).toLawsKept
  | noticePop n _ =>
    exact of_next e (portCycle_orderly s fun t h _ => (popNotice_orderly t n).acceptAccess h 0).toLawsKept
  | attnEnWrite n value =>
    exact of_next e (portCycle_orderly s fun t h _ => (writeAttn_orderly t n value).acceptAccess h 0).toLawsKept
  | controlBlockWrite n addr width value =>
    refine of_next e ?_
    split
    · refine (portCycle_orderly s fun t h ha => ?_).toLawsKept
      split
      · exact writePort_orderly h ha ..
      · exact answerPort_orderly h _
    · exact (Orderly.refl s).toLawsKept
  | controlBlockRead n addr width =>
    refine of_next e ?_
    split
    · refine (portCycle_orderly s fun t h _ => ?_).toLawsKept
      split
      · exact readPort_orderly h ..
      · exact answerPort_orderly h _
    · exact (Orderly.refl s).toLawsKept
  | cycleCheck n addr kind _ =>
    exact of_next e (.ite fun h => (checkCycle_orderly (by simpa using (not_or.mp h).1) n addr kind).toLawsKept)
  | cycleEnd => exact of_next e (endCycle_orderly s).toLawsKept
  | tick => exact of_next e (.ite fun _ => .of_standing rfl)
  | claimTableTick =>
    have hdue : LawsKept s { s with claimTicksDue := s.claimTicksDue - 1 } := .of_standing rfl
    exact of_next e (.ite fun _ => hdue.trans (Orderly.foldl tickWindow_orderly allWindows _).toLawsKept)
  | slotTableTick =>
    have hdue : LawsKept s { s with slotTicksDue := s.slotTicksDue - 1 } := .of_standing rfl
    exact of_next e (.ite fun _ => hdue.trans (tickSlots_orderly _).toLawsKept)
  | waitTimeout r => exact of_next e (lastTick_orderly s r .waiting).toLawsKept
  | leaseExpiry r => exact of_next e (lastTick_orderly s r .held).toLawsKept
  | graceExpiry r => exact of_next e (lastTick_orderly s r .lapsing).toLawsKept
  | recallLimitExpiry r => exact of_next e (lastTick_orderly s r .recalled).toLawsKept
  | silenceExpiry n => exact of_next e (lastSilence_orderly s n).toLawsKept
  | presRise n =>
    have hline : LawsKept s (s.setLine n true) := .of_standing rfl
    refine of_next e ?_
    split
    · exact hline
    · exact hline.trans (rise_orderly _ n).toLawsKept
  | presFall n =>
    have hline : LawsKept s (s.setLine n false) := .of_standing rfl
    refine of_next e ?_
    split
    · exact hline
    · exact hline.trans (fall_lawsKept _ n)
  | slotReset n => exact of_next e (.ite fun _ => slotReset_lawsKept s n)
  | backplaneReset => exact of_next e (.ite fun _ => backplaneReset_lawsKept s)
  | powerOnReset elig =>
    refine of_next e ((powerOn_lawsKept s s.presLines elig).trans ?_)
    exact .of_standing rfl
  | porAsserted => exact of_next e (porAsserted_lawsKept s)

/-- Settles O54: by the rows of the table, most of which are made of posts and of changes to one slot's record, port or
queue; an ABSENT slot's queue and FIFOs are emptied as it is removed, and a master that stops vacates the role first. -/
theorem standingLawsKept : Obligations.StandingLawsKept := by
  unfold Obligations.StandingLawsKept
  intro s t e
  have hstep : LawsKept s t := by
    cases hp : s.pending with
    | nil =>
      rw [step_of_idle hp] at e
      exact of_next e (refclk_orderly s).toLawsKept
    | cons i rest =>
      rw [step_of_pending hp] at e
      have hrest : LawsKept s { s with pending := rest } := .of_standing rfl
      exact hrest.trans (exec_lawsKept i e)
  exact ⟨hstep.queues, hstep.fifos, hstep.role, hstep.slots, hstep.backplane⟩

end Sys2Proof.Machine
end

section
/-! SUPPORT. A slot that stops taking part: its record, port and queue, and what the others are told (R129, R130, R135,
R137). -/

namespace Sys2Proof.Machine

/-! ### What stays the same, change after change -/

section
variable {s t u : State}

theorem SameTables.trans (h : SameTables s t) (k : SameTables t u) : SameTables s u :=
  ⟨k.windows.trans h.windows, k.records.trans h.records, k.claims.trans h.claims⟩

theorem SameRole.trans (h : SameRole s t) (k : SameRole t u) : SameRole s u :=
  ⟨k.master.trans h.master, k.eligible.trans h.eligible, k.silenceLimit.trans h.silenceLimit⟩

theorem SameClock.trans (h : SameClock s t) (k : SameClock t u) : SameClock s u :=
  ⟨k.tickSelect.trans h.tickSelect, k.divider.trans h.divider, k.claimTicksDue.trans h.claimTicksDue,
    k.slotTicksDue.trans h.slotTicksDue⟩

theorem SameOutside.trans (h : SameOutside s t) (k : SameOutside t u) : SameOutside s u :=
  ⟨k.inHand.trans h.inHand, k.portAnswer.trans h.portAnswer, k.presLines.trans h.presLines,
    k.porAsserted.trans h.porAsserted, k.pending.trans h.pending⟩

end

section
variable (s : State) (n : SlotId) (x : SlotRecord)

theorem setSlot_tables : SameTables s (s.setSlot n x) := ⟨rfl, rfl, rfl⟩

theorem setSlot_role : SameRole s (s.setSlot n x) := ⟨rfl, rfl, rfl⟩

theorem setSlot_clock : SameClock s (s.setSlot n x) := ⟨rfl, rfl, rfl, rfl⟩

theorem setSlot_outside : SameOutside s (s.setSlot n x) := ⟨rfl, rfl, rfl, rfl, rfl⟩

end

/-! ### Reports to the master (R137) -/

theorem reportSlotChange_beside (s : State) (n : SlotId) : SameBesideClaims s (s.reportSlotChange n) :=
  postToMaster_beside ..

theorem reportSlotChange_tables (s : State) (n : SlotId) : SameTables s (s.reportSlotChange n) := postToMaster_tables ..

/-- Nothing of a report reaches the slot that it leaves out. -/
theorem queueAfter_toMaster_self (s : State) (n : SlotId) (x : Subject) (b : NoticeBody) (q : List Notice) :
    queueAfter (toMaster s (some n) x b) n q = q := by
  obtain ⟨-, h⟩ | ⟨m, -, hm, -, h⟩ := postToMaster_cases s (some n) x b
  · rw [h]
    rfl
  · have hne : m ≠ n := fun he => hm (congrArg some he.symm)
    simp [h, queueAfter, hne]

/-- SLOT_CHANGE with the slot's state and exit reason is all that a report posts. -/
theorem posted_reportSlotChange (s : State) (n : SlotId) :
    Posted s (s.reportSlotChange n)
      (toMaster s (some n) (.slot n) (.slotChange (s.slot n).state (s.slot n).exitReason)) :=
  posted_postToMaster s (some n) _ _

theorem queue_reportSlotChange_self (s : State) (n : SlotId) : (s.reportSlotChange n).queue n = s.queue n := by
  rw [posted_reportSlotChange, queueAfter_toMaster_self, ite_self]

/-- A slot's record is written, and then reported. -/
theorem posted_setSlot_report (s : State) (n : SlotId) (x : SlotRecord) :
    Posted s ((s.setSlot n x).reportSlotChange n)
      (toMaster s (some n) (.slot n) (.slotChange x.state x.exitReason)) := by
  intro m
  by_cases hm : m = n
  · subst hm
    rw [queue_reportSlotChange_self, queueAfter_toMaster_self, ite_self, State.queue_setSlot]
  · rw [posted_reportSlotChange]
    simp only [State.slot_setSlot, State.queue_setSlot, if_neg hm, if_true]
    rfl

/-! ### The stopped slot (R127, R135 steps 2 and 3) -/

/-- The record of a slot that has stopped taking part (R127). -/
def SlotRecord.stopped (x : SlotRecord) (reason : ExitReason) : SlotRecord :=
  { x with state := if reason = .removed then .absent else .present, exitReason := reason, silence := 0 }

/-- Its port, by the exit reason (R129, R130, R151, R159, R166). -/
def SlotPort.stopped (x : SlotPort) : ExitReason → SlotPort
  | .none => x
  | .left | .silent | .evicted => { x with holding := 0 }
  | .reset => .cleared
  | .removed => { x with commands := [], responses := [], attnEnable := false, holding := 0 }

/-- Its queue: emptied, and then told of a silence expiry or an eviction (R135 step 3). -/
def exitNotices (n : SlotId) (reason : ExitReason) : List Notice :=
  if reason = .silent ∨ reason = .evicted then [{ subject := .slot n, body := .exited reason, folded := false }] else []

/-- Slot `n` has stopped taking part; the other slots, the tables, the clock and what is outside are as they were. -/
structure Stopped (n : SlotId) (reason : ExitReason) (s t : State) : Prop where
  slot : t.slot n = (s.slot n).stopped reason
  port : t.port n = (s.port n).stopped reason
  queue : t.queue n = exitNotices n reason
  otherSlots : SameOtherSlots n s t
  otherPorts : SameOtherPorts n s t
  tables : SameTables s t
  clock : SameClock s t
  outside : SameOutside s t
  pointer : t.pointer = s.pointer

theorem setPort_setPort (s : State) (n : SlotId) (x y : SlotPort) : (s.setPort n x).setPort n y = s.setPort n y := by
  simp [State.setPort]

theorem setQueue_setQueue (s : State) (n : SlotId) (x y : List Notice) :
    (s.setQueue n x).setQueue n y = s.setQueue n y := by
  simp [State.setQueue]

/-- A post to an emptied queue is its only notice. -/
theorem emptyQueue_post {s : State} {n : SlotId} (h : (s.slot n).state ≠ .absent) (x : Subject) (b : NoticeBody) :
    (s.emptyQueue n).post n x b =
      (s.setPort n { s.port n with holding := 0 }).setQueue n [{ subject := x, body := b, folded := false }] := by
  have hqueue : (s.emptyQueue n).queue n = [] := by simp [State.emptyQueue]
  have hpost : (s.emptyQueue n).post n x b =
      (s.emptyQueue n).setQueue n (enqueueNotice x b ((s.emptyQueue n).queue n)) := if_neg h
  rw [hpost, hqueue]
  exact setQueue_setQueue (s.setPort n { s.port n with holding := 0 }) n [] _

theorem clearPort_eq (s : State) (n : SlotId) :
    s.clearPort n = (s.setPort n ((s.port n).stopped .removed)).setQueue n [] := by
  rw [State.clearPort, State.emptyQueue, setPort_setPort, State.port_setPort, if_pos rfl]
  rfl

theorem clearPortAndParams_eq (s : State) (n : SlotId) :
    s.clearPortAndParams n = (s.setPort n .cleared).setQueue n [] := by
  rw [State.clearPortAndParams, port_clearPort, if_pos rfl, clearPort_eq]
  exact congrArg (State.setQueue · n []) (setPort_setPort s n _ _)

/-- A stop writes the slot's own record, port and queue. -/
theorem stop_eq (s : State) (n : SlotId) {reason : ExitReason} (hr : reason ≠ .none) :
    s.stop n reason =
      ((s.setSlot n ((s.slot n).stopped reason)).setPort n ((s.port n).stopped reason)).setQueue n
        (exitNotices n reason) := by
  cases reason with
  | none => exact absurd rfl hr
  | left => rfl
  | silent | evicted => exact emptyQueue_post (s := s.leaveActive n _) (by simp [State.leaveActive]) _ _
  | reset => exact clearPortAndParams_eq (s.leaveActive n .reset) n
  | removed => exact clearPort_eq (s.leaveActive n .removed) n

theorem stop_stopped (s : State) (n : SlotId) {reason : ExitReason} (hr : reason ≠ .none) :
    Stopped n reason s (s.stop n reason) := by
  rw [stop_eq s n hr]
  exact ⟨by simp, by simp, by simp, fun m hm => by simp [hm], fun m hm => by simp [hm], ⟨rfl, rfl, rfl⟩,
    ⟨rfl, rfl, rfl, rfl⟩, ⟨rfl, rfl, rfl, rfl, rfl⟩, rfl⟩

theorem stop_role (s : State) (n : SlotId) {reason : ExitReason} (hr : reason ≠ .none) :
    SameRole s (s.stop n reason) := by
  rw [stop_eq s n hr]
  exact ⟨rfl, rfl, rfl⟩

theorem queue_stop_of_ne (s : State) {n m : SlotId} (hm : m ≠ n) {reason : ExitReason} (hr : reason ≠ .none) :
    (s.stop n reason).queue m = s.queue m := by
  rw [stop_eq s n hr]
  simp [hm]

/-! ### The stopped slot is reported (R135 step 4, R137) -/

/-- The stopped slot is reported to the master, unless it was evicted. -/
def State.stopAndReport (s : State) (n : SlotId) (reason : ExitReason) : State :=
  if reason = .evicted then s.stop n reason else (s.stop n reason).reportSlotChange n

/-- What is posted of it, and to whom. -/
def State.stopReport (s : State) (n : SlotId) (reason : ExitReason) : List (SlotId × Subject × NoticeBody) :=
  if reason = .evicted then []
  else toMaster s (some n) (.slot n) (.slotChange (if reason = .removed then .absent else .present) reason)

section
variable {s : State} {n : SlotId} {reason : ExitReason}

theorem Stopped.beside {t u : State} (h : Stopped n reason s t) (k : SameBesideClaims t u) (htables : SameTables t u)
    (hqueue : u.queue n = t.queue n) : Stopped n reason s u where
  slot := (k.slot n).trans h.slot
  port := (k.port n).trans h.port
  queue := hqueue.trans h.queue
  otherSlots m hm := (k.slot m).trans (h.otherSlots m hm)
  otherPorts m hm := (k.port m).trans (h.otherPorts m hm)
  tables := h.tables.trans htables
  clock := h.clock.trans k.clock
  outside := h.outside.trans k.outside
  pointer := k.pointer.trans h.pointer

theorem Stopped.setMaster {t : State} (h : Stopped n reason s t) (m : Option SlotId) :
    Stopped n reason s (t.setMaster m) where
  slot := h.slot
  port := h.port
  queue := h.queue
  otherSlots := h.otherSlots
  otherPorts := h.otherPorts
  tables := ⟨h.tables.windows, h.tables.records, h.tables.claims⟩
  clock := ⟨h.clock.tickSelect, h.clock.divider, h.clock.claimTicksDue, h.clock.slotTicksDue⟩
  outside := ⟨h.outside.inHand, h.outside.portAnswer, h.outside.presLines, h.outside.porAsserted, h.outside.pending⟩
  pointer := h.pointer

theorem stopAndReport_stopped (hr : reason ≠ .none) : Stopped n reason s (s.stopAndReport n reason) := by
  have hstop := stop_stopped s n hr
  unfold State.stopAndReport
  split
  · exact hstop
  · exact hstop.beside (reportSlotChange_beside ..) (reportSlotChange_tables ..) (queue_reportSlotChange_self ..)

theorem stopAndReport_role (hr : reason ≠ .none) : SameRole s (s.stopAndReport n reason) := by
  have hstop := stop_role s n hr
  unfold State.stopAndReport
  split
  · exact hstop
  · exact hstop.trans (reportSlotChange_beside ..).role

theorem queue_stopAndReport_of_ne {m : SlotId} (hm : m ≠ n) (hr : reason ≠ .none) :
    (s.stopAndReport n reason).queue m =
      if (s.slot m).state = .absent then s.queue m else queueAfter (s.stopReport n reason) m (s.queue m) := by
  have hstop := stop_stopped s n hr
  unfold State.stopAndReport State.stopReport
  split
  · rw [queue_stop_of_ne s hm hr]
    exact (ite_self _).symm
  · rw [posted_reportSlotChange, hstop.otherSlots m hm, hstop.slot, queue_stop_of_ne s hm hr]
    simp only [toMaster, master_stop, SlotRecord.stopped]

end

/-! ### The role falls vacant (R135 step 5) -/

theorem tellVacant_beside (s : State) (m : SlotId) : SameBesideClaims s (s.tellVacant m) := by
  unfold State.tellVacant
  split
  · exact post_beside ..
  · exact .refl s

theorem queue_tellVacant (s : State) (m k : SlotId) :
    (s.tellVacant m).queue k =
      if k = m ∧ (s.slot k).state = .active ∧ s.isEligible k = true then enqueueNotice .role (.role .vacant) (s.queue k)
      else s.queue k := by
  unfold State.tellVacant
  by_cases hk : k = m
  · subst hk
    by_cases h : (s.slot k).state = .active ∧ s.isEligible k = true
    · simp [h, queue_post]
    · simp [h]
  · have hother (h : (s.slot m).state = .active ∧ s.isEligible m = true) :
        (s.post m .role (.role .vacant)).queue k = s.queue k := queue_post_of_ne hk _ _
    simp only [hk, false_and, if_false]
    split
    · next h => exact hother h
    · rfl

/-- Each slot of the list that is ACTIVE and eligible is told once. -/
theorem queue_foldl_tellVacant (l : List SlotId) (hl : l.Nodup) (s : State) (m : SlotId) :
    (l.foldl State.tellVacant s).queue m =
      if m ∈ l ∧ (s.slot m).state = .active ∧ s.isEligible m = true then
        enqueueNotice .role (.role .vacant) (s.queue m)
      else s.queue m := by
  induction l generalizing s with
  | nil => simp
  | cons k l ih =>
    obtain ⟨hk, hl⟩ := List.nodup_cons.mp hl
    have heligible : (s.tellVacant k).isEligible m = s.isEligible m := by
      simp only [State.isEligible, (tellVacant_beside s k).role.eligible]
    rw [List.foldl_cons, ih hl, (tellVacant_beside s k).slot, heligible, queue_tellVacant]
    by_cases hm : m = k
    · subst hm
      simp [hk]
    · simp [hm]

/-- The role after the exit of a slot: vacant if that slot held it. -/
def State.masterWithout (s : State) (n : SlotId) : Option SlotId := if s.master = some n then none else s.master

theorem exitRole_beside (s : State) (n : SlotId) :
    SameBesideClaims (s.setMaster (s.masterWithout n)) (s.exitRole n) := by
  unfold State.exitRole State.masterWithout
  split
  · exact .foldl tellVacant_beside ..
  · exact .refl s

theorem exitRole_tables (s : State) (n : SlotId) : SameTables s (s.exitRole n) := (exitRole_still s n).tables

theorem queue_exitRole (s : State) (n m : SlotId) :
    (s.exitRole n).queue m =
      if s.master = some n ∧ (s.slot m).state = .active ∧ s.isEligible m = true then
        enqueueNotice .role (.role .vacant) (s.queue m)
      else s.queue m := by
  unfold State.exitRole
  split
  · next h =>
    rw [queue_foldl_tellVacant allSlots (List.nodup_finRange 8)]
    simp only [h, mem_allSlots]
    rfl
  · next h => simp [h]

/-! ### Exit processing (R135) -/

section
variable {s : State} {n : SlotId} {reason : ExitReason}

/-- Exit processing in its steps: records, standing with queue and port and the report, and role. -/
theorem exit_steps (s : State) (n : SlotId) (reason : ExitReason) :
    s.exit n reason = ((s.exitRecords n).stopAndReport n reason).exitRole n := rfl

/-- After it the slot has stopped taking part. -/
theorem exit_stopped (hr : reason ≠ .none) : Stopped n reason (s.exitRecords n) (s.exit n reason) := by
  have h : Stopped n reason (s.exitRecords n) ((s.exitRecords n).stopAndReport n reason) := stopAndReport_stopped hr
  have htables := exitRole_tables ((s.exitRecords n).stopAndReport n reason) n
  have hinactive : (((s.exitRecords n).stopAndReport n reason).slot n).state ≠ .active := by
    rw [h.slot, SlotRecord.stopped]
    split <;> simp
  have hqueue : (((s.exitRecords n).stopAndReport n reason).exitRole n).queue n =
      ((s.exitRecords n).stopAndReport n reason).queue n := by
    rw [queue_exitRole, if_neg fun ha => hinactive ha.2.1]
  rw [exit_steps]
  exact (h.setMaster _).beside (exitRole_beside ..) ⟨htables.windows, htables.records, htables.claims⟩ hqueue

/-- What it posts to another slot: the report, and that the role is vacant. -/
theorem queue_exit_of_ne {m : SlotId} (hm : m ≠ n) (hr : reason ≠ .none) :
    (s.exit n reason).queue m =
      if (s.slot m).state = .absent then (s.exitRecords n).queue m
      else queueAfter
        (s.stopReport n reason ++
          (if s.master = some n ∧ (s.slot m).state = .active ∧ s.isEligible m = true then [(m, .role, .role .vacant)]
          else [])) m ((s.exitRecords n).queue m) := by
  have hbeside := exitRecords_beside s n
  have hrole : SameRole (s.exitRecords n) ((s.exitRecords n).stopAndReport n reason) := stopAndReport_role hr
  have hslot : ((s.exitRecords n).stopAndReport n reason).slot m = s.slot m :=
    ((stopAndReport_stopped hr).otherSlots m hm).trans (hbeside.slot m)
  have hmaster : ((s.exitRecords n).stopAndReport n reason).master = s.master :=
    hrole.master.trans hbeside.role.master
  have heligible : ((s.exitRecords n).stopAndReport n reason).isEligible m = s.isEligible m := by
    simp only [State.isEligible, hrole.eligible, hbeside.role.eligible]
  have hreport : (s.exitRecords n).stopReport n reason = s.stopReport n reason := by
    simp only [State.stopReport, toMaster, hbeside.role.master]
  rw [exit_steps, queue_exitRole, hslot, hmaster, heligible, queue_stopAndReport_of_ne hm hr, hbeside.slot, hreport,
    queueAfter_append]
  by_cases ha : (s.slot m).state = .absent
  · simp [ha]
  · rw [if_neg ha, if_neg ha]
    split <;> simp [queueAfter]

theorem exit_role (hr : reason ≠ .none) :
    (s.exit n reason).master = s.masterWithout n ∧ (s.exit n reason).eligible = s.eligible ∧
      (s.exit n reason).silenceLimit = s.silenceLimit := by
  have hbeside := (exitRecords_beside s n).role
  have hrole : SameRole (s.exitRecords n) ((s.exitRecords n).stopAndReport n reason) := stopAndReport_role hr
  have hexit := (exitRole_beside ((s.exitRecords n).stopAndReport n reason) n).role
  refine ⟨hexit.master.trans ?_, hexit.eligible.trans (hrole.eligible.trans hbeside.eligible),
    hexit.silenceLimit.trans (hrole.silenceLimit.trans hbeside.silenceLimit)⟩
  simp [State.masterWithout, hrole.master, hbeside.master]

end

/-- Settles O19: the records that are retired leave slots, ports, role and clock alone; then the slot stops, is
reported, and vacates the role. -/
theorem exitProcessing : Obligations.ExitProcessing := by
  unfold Obligations.ExitProcessing
  intro s n reason _ hr
  have hrecords := exitRecords_beside s n
  have hexit : Stopped n reason (s.exitRecords n) (s.exit n reason) := exit_stopped hr
  obtain ⟨hmaster, heligible, hlimit⟩ := exit_role (s := s) (n := n) hr
  have hport := hexit.port
  rw [hrecords.port] at hport
  refine ⟨hexit.tables, ?_, fun m hm => (hexit.otherSlots m hm).trans (hrecords.slot m), ?_, ?_, ?_,
    fun m hm => (hexit.otherPorts m hm).trans (hrecords.port m), hexit.queue, fun m hm => queue_exit_of_ne hm hr,
    hmaster, heligible, hlimit, hrecords.clock.trans hexit.clock, hrecords.outside.trans hexit.outside,
    hexit.pointer.trans hrecords.pointer⟩
  · rw [hexit.slot, hrecords.slot]
    rfl
  · rintro (rfl | rfl | rfl) <;> exact hport
  · rintro rfl
    exact hport
  · rintro rfl
    exact hport

end Sys2Proof.Machine
end

section
/-! SUPPORT. The events that end a slot's participation, and the presence and slot-reset lines (R129, R130, R132 to
R134, R137). -/

namespace Sys2Proof.Machine

/-! ### LEAVE and EVICT (R132, R133) -/

/-- A row whose entry the arbiter reaches, by what the entry's command gives (R162). -/
theorem runCommand_of_command {s t : State} {c : SlotId} {e : CommandEntry} {code : BitVec 8} {y : Reply}
    {f : SlotId → CommandEntry → State → State × Reply} (h : TakesCommand s c e code)
    (hf : f c e (s.popCommand c) = (t, y)) : runCommand code f s = .next (t.pushResponse c e y) := by
  rw [runCommand_of_takes h, hf]

section
variable {s : State} {c n : SlotId} {e : CommandEntry}

theorem leaveCommand_active (ha : (s.slot c).state = .active) :
    leaveCommand c e s = (s.exit c .left, Reply.success .ok (bitsAt 0 6 (s.inUse c)) 0) :=
  answer_active ha

/-- The master may not name itself. -/
theorem evictCommand_self (ha : (s.slot c).state = .active) (hm : s.master = some c) (hn : NamesSlot e.param0 c) :
    evictCommand c e s = (s, Reply.refusal .badParam) := by
  rw [evictCommand, answer_active ha, answer_master hm, answer_fail _ (by simp [slotField_of_names hn])]

theorem evictCommand_slotNotActive (ha : (s.slot c).state = .active) (hm : s.master = some c)
    (hn : NamesSlot e.param0 n) (h : (s.slot n).state ≠ .active) :
    evictCommand c e s = (s, Reply.refusal .slotNotActive) := by
  have hne : n ≠ c := fun he => h (he ▸ ha)
  rw [evictCommand, answer_active ha, answer_master hm,
    answer_pass _ (by simp [slotInRange_of_names hn, slotField_of_names hn, hne]),
    answer_fail _ (by simp [slotField_of_names hn, h])]

theorem evictCommand_evicts (ha : (s.slot c).state = .active) (hm : s.master = some c) (hn : NamesSlot e.param0 n)
    (hne : n ≠ c) (h : (s.slot n).state = .active) :
    evictCommand c e s =
      (s.exit n .evicted, Reply.success .ok (bitsAt 0 3 n.val ||| bitsAt 8 6 (s.inUse n)) 0) := by
  rw [evictCommand, answer_active ha, answer_master hm,
    answer_pass _ (by simp [slotInRange_of_names hn, slotField_of_names hn, hne]),
    answer_pass _ (by simp [slotField_of_names hn, h]), answer_nil, slotField_of_names hn]

/-! ### The presence and slot-reset lines (R129, R130) -/

theorem exec_presRise (hpor : s.porAsserted = false) : exec (.presRise n) s = .next ((s.setLine n true).rise n) := by
  simp [exec, execPresRise, hpor]

theorem exec_presFall (hpor : s.porAsserted = false) : exec (.presFall n) s = .next ((s.setLine n false).fall n) := by
  simp [exec, execPresFall, hpor]

theorem exec_slotReset (hpor : s.porAsserted = false) : exec (.slotReset n) s = .next (s.slotReset n) := by
  simp [exec, execSlotReset, hpor]

theorem getLsbD_twoPow (n m : SlotId) : (BitVec.ofNat 8 (2 ^ n.val)).getLsbD m.val = decide (m = n) := by
  have hm := m.isLt
  rw [BitVec.getLsbD_ofNat, Nat.testBit_two_pow]
  simp [Fin.ext_iff, eq_comm]

/-- A change of one line leaves the levels of the others. -/
theorem getLsbD_setLine (s : State) (n m : SlotId) (high : Bool) :
    (s.setLine n high).presLines.getLsbD m.val = if m = n then high else s.presLines.getLsbD m.val := by
  have hm := m.isLt
  cases high with
  | false =>
    rw [State.setLine, if_neg Bool.false_ne_true, BitVec.getLsbD_and, BitVec.getLsbD_not, getLsbD_twoPow]
    by_cases h : m = n <;> simp [h]
  | true =>
    rw [State.setLine, if_pos rfl, BitVec.getLsbD_or, getLsbD_twoPow]
    by_cases h : m = n <;> simp [h]

/-- The levels, where nothing after the change of one line touches them. -/
theorem getLsbD_of_setLine {s t : State} {n : SlotId} {high : Bool}
    (h : t.presLines = (s.setLine n high).presLines) (m : SlotId) :
    t.presLines.getLsbD m.val = if m = n then high else s.presLines.getLsbD m.val := by
  rw [h, getLsbD_setLine]

theorem setLine_tables (s : State) (n : SlotId) (high : Bool) : SameTables s (s.setLine n high) := ⟨rfl, rfl, rfl⟩

theorem setLine_role (s : State) (n : SlotId) (high : Bool) : SameRole s (s.setLine n high) := ⟨rfl, rfl, rfl⟩

theorem setLine_clock (s : State) (n : SlotId) (high : Bool) : SameClock s (s.setLine n high) := ⟨rfl, rfl, rfl, rfl⟩

theorem rise_absent (h : (s.slot n).state = .absent) :
    s.rise n = (s.setSlot n { s.slot n with state := .present }).reportSlotChange n := if_pos h

/-- A rise writes the slot's record and posts notices, and nothing else. -/
theorem rise_frame (h : (s.slot n).state = .absent) :
    SameBesideClaims (s.setSlot n { s.slot n with state := .present }) (s.rise n) := by
  rw [rise_absent h]
  exact reportSlotChange_beside ..

theorem rise_tables (s : State) (n : SlotId) : SameTables s (s.rise n) := by
  unfold State.rise
  split
  · exact (setSlot_tables ..).trans (reportSlotChange_tables ..)
  · exact ⟨rfl, rfl, rfl⟩

theorem fall_active (h : (s.slot n).state = .active) : s.fall n = s.exit n .removed := by
  simp only [State.fall, h]

/-- A PRESENT slot that is removed stops and is reported, as in exit processing. -/
theorem fall_present (h : (s.slot n).state = .present) : s.fall n = s.stopAndReport n .removed := by
  simp only [State.fall, h]
  rfl

theorem fall_absent (h : (s.slot n).state = .absent) : s.fall n = s := by
  simp only [State.fall, h]

theorem slotReset_active (h : (s.slot n).state = .active) : s.slotReset n = s.exit n .reset := by
  simp only [State.slotReset, h]

theorem slotReset_present (h : (s.slot n).state = .present) : s.slotReset n = s.stopAndReport n .reset := by
  simp only [State.slotReset, h]
  rfl

theorem slotReset_absent (h : (s.slot n).state = .absent) : s.slotReset n = s := by
  simp only [State.slotReset, h]

/-- The last silence tick of an ACTIVE slot (R134). -/
theorem exec_silenceExpiry (hpor : s.porAsserted = false) (hl : s.silenceLimit ≠ 0) (ha : (s.slot n).state = .active)
    (h1 : (s.slot n).silence = 1) : exec (.silenceExpiry n) s = .next (s.exit n .silent) := by
  show Host.Outcome.next (s.lastSilence n) = _
  rw [State.lastSilence, if_pos ⟨hpor, hl, ha, h1⟩]

end

/-- Settles O20: by the checks of LEAVE and EVICT, and by the state of the slot whose line changes. -/
theorem eventsThatEndParticipation : Obligations.EventsThatEndParticipation := by
  unfold Obligations.EventsThatEndParticipation
  refine fun s => ⟨?_, ?_, ?_, ?_, fun n => exec_silenceExpiry, fun n hpor ha => ⟨?_, ?_⟩⟩
  · rintro c e ⟨ht, ha⟩
    exact runCommand_of_command ht (leaveCommand_active (s := s.popCommand c) ha)
  · rintro c e n ⟨⟨ht, ha⟩, hm⟩ hn hne h
    exact runCommand_of_command ht (evictCommand_evicts (s := s.popCommand c) ha hm hn hne h)
  · rintro c e ⟨⟨ht, ha⟩, hm⟩ hn
    exact ⟨_, runCommand_of_takes ht evictCommand,
      onlyAnswered_of_command (evictCommand_self (s := s.popCommand c) ha hm hn)⟩
  · rintro c e n ⟨⟨ht, ha⟩, hm⟩ hn h
    exact ⟨_, runCommand_of_takes ht evictCommand,
      onlyAnswered_of_command (evictCommand_slotNotActive (s := s.popCommand c) ha hm hn h)⟩
  · rw [exec_slotReset hpor, slotReset_active ha]
  · rw [exec_presFall hpor, fall_active (s := s.setLine n false) ha]

/-- Settles O52: an ABSENT slot becomes PRESENT and is reported, and a PRESENT one stops and is reported. -/
theorem presenceAndSlotResetLines : Obligations.PresenceAndSlotResetLines := by
  unfold Obligations.PresenceAndSlotResetLines
  intro s n hpor
  refine ⟨fun ha => ?_, fun hp => ?_, fun hp => ?_, fun ha => ?_⟩
  · have hrise := rise_absent (s := s.setLine n true) ha
    have hframe := rise_frame (s := s.setLine n true) ha
    have hlines := getLsbD_of_setLine (s := s) (n := n) (high := true) hframe.outside.presLines
    have hslot (m : SlotId) := (hframe.slot m).trans (State.slot_setSlot _ n _ m)
    refine ⟨_, exec_presRise hpor, (hslot n).trans (if_pos rfl), fun m hm => (hslot m).trans (if_neg hm), ?_,
      (hlines n).trans (if_pos rfl), fun m hm => (hlines m).trans (if_neg hm), hframe.ports, hframe.pointer,
      (setLine_tables s n true).trans (rise_tables ..),
      (setLine_role s n true).trans ((setSlot_role ..).trans hframe.role),
      (setLine_clock s n true).trans ((setSlot_clock ..).trans hframe.clock), hframe.outside.inHand,
      hframe.outside.portAnswer, hframe.outside.porAsserted, hframe.outside.pending⟩
    rw [hrise]
    exact posted_setSlot_report (s.setLine n true) n _
  · have hne : ExitReason.removed ≠ .none := by decide
    have hstop : Stopped n .removed (s.setLine n false) ((s.setLine n false).stopAndReport n .removed) :=
      stopAndReport_stopped hne
    have hlines := getLsbD_of_setLine hstop.outside.presLines
    have hexec := exec_presFall (n := n) hpor
    rw [fall_present (s := s.setLine n false) hp] at hexec
    exact ⟨_, hexec, hstop.slot, hstop.otherSlots, hstop.port, hstop.otherPorts, hstop.queue,
      fun m hm => queue_stopAndReport_of_ne (s := s.setLine n false) hm hne, (hlines n).trans (if_pos rfl),
      fun m hm => (hlines m).trans (if_neg hm), hstop.pointer, (setLine_tables s n false).trans hstop.tables,
      (setLine_role s n false).trans (stopAndReport_role hne), (setLine_clock s n false).trans hstop.clock,
      hstop.outside.inHand, hstop.outside.portAnswer, hstop.outside.porAsserted, hstop.outside.pending⟩
  · have hne : ExitReason.reset ≠ .none := by decide
    have hstop : Stopped n .reset s (s.stopAndReport n .reset) := stopAndReport_stopped hne
    have hrecord : (s.slot n).stopped .reset = { s.slot n with exitReason := .reset, silence := 0 } := by
      simp [SlotRecord.stopped, hp]
    rw [exec_slotReset hpor, slotReset_present hp]
    exact ⟨_, rfl, hstop.slot.trans hrecord, hstop.otherSlots, hstop.port, hstop.otherPorts, hstop.queue,
      fun m hm => queue_stopAndReport_of_ne hm hne, hstop.pointer, hstop.tables, stopAndReport_role hne, hstop.clock,
      hstop.outside⟩
  · rw [exec_slotReset hpor, slotReset_absent ha, exec_presFall hpor, fall_absent (s := s.setLine n false) ha]
    exact ⟨rfl, rfl⟩

end Sys2Proof.Machine
end

section
/-! SUPPORT. JOIN, the master role, the quotas and the eligible set (R131, R138, R140, R141). -/

namespace Sys2Proof.Machine

/-! ### What a whole take leaves as it was (R162) -/

section
variable {s m : State} {c : SlotId} (e : CommandEntry) (y : Reply)

theorem SameTables.take (h : SameTables (s.popCommand c) m) : SameTables s (m.pushResponse c e y) :=
  ⟨h.windows, h.records, h.claims⟩

theorem SameRole.take (h : SameRole (s.popCommand c) m) : SameRole s (m.pushResponse c e y) :=
  ⟨h.master, h.eligible, h.silenceLimit⟩

theorem SameClock.take (h : SameClock (s.popCommand c) m) : SameClock s (m.pushResponse c e y) :=
  ⟨h.tickSelect, h.divider, h.claimTicksDue, h.slotTicksDue⟩

theorem SameOutside.take (h : SameOutside (s.popCommand c) m) : SameOutside s (m.pushResponse c e y) :=
  ⟨h.inHand, h.portAnswer, h.presLines, h.porAsserted, h.pending⟩

end

/-! ### JOIN (R131) -/

section
variable {s : State} {c n : SlotId} {e : CommandEntry}

/-- The record of a slot that has joined (R131). -/
def SlotRecord.joined (x : SlotRecord) (e : CommandEntry) (limit : Ticks) : SlotRecord :=
  { x with
    state := .active, exitReason := .none, identity := e.param0, slotClass := lowByte e.param1, silence := limit }

theorem joinEffect_eq (c : SlotId) (e : CommandEntry) (s : State) :
    joinEffect c e s = (s.setSlot c ((s.slot c).joined e s.silenceLimit)).reportSlotChange c := rfl

theorem joinCommand_joins (h : (s.slot c).state = .present) :
    joinCommand c e s = (joinEffect c e s, Reply.success .ok (bitsAt 0 3 c.val) 0) :=
  (answer_pass _ (by simp [h])).trans (answer_seated (by simp [h]))

end

/-- Settles O21: the slot's record is written, and then reported. -/
theorem joinMakesSlotActive : Obligations.JoinMakesSlotActive := by
  unfold Obligations.JoinMakesSlotActive
  intro s c e htake hp
  have hexec : exec .join s = _ := runCommand_of_command htake (joinCommand_joins (s := s.popCommand c) hp)
  rw [joinEffect_eq] at hexec
  have hbeside := reportSlotChange_beside ((s.popCommand c).setSlot c ((s.slot c).joined e s.silenceLimit)) c
  have htables := reportSlotChange_tables ((s.popCommand c).setSlot c ((s.slot c).joined e s.silenceLimit)) c
  have hslot (m : SlotId) := (hbeside.slot m).trans (State.slot_setSlot _ c _ m)
  exact ⟨_, hexec, answered_of_ports _ hbeside.pointer hbeside.ports, (hslot c).trans (if_pos rfl),
    fun m hm => (hslot m).trans (if_neg hm), posted_setSlot_report (s.popCommand c) c _,
    ((setSlot_tables ..).trans htables).take .., ((setSlot_role ..).trans hbeside.role).take ..,
    ((setSlot_clock ..).trans hbeside.clock).take .., ((setSlot_outside ..).trans hbeside.outside).take ..⟩

/-! ### The master role (R140, R141) -/

section
variable {s : State} {c n : SlotId} {e : CommandEntry}

theorem takeMasterCommand_roleTaken (ha : (s.slot c).state = .active) (h : s.master ≠ none) :
    takeMasterCommand c e s = (s, Reply.refusal .roleTaken) := by
  rw [takeMasterCommand, answer_active ha, answer_fail _ (Option.isSome_iff_ne_none.mpr h)]

theorem takeMasterCommand_notEligible (ha : (s.slot c).state = .active) (h : s.master = none)
    (he : s.isEligible c = false) : takeMasterCommand c e s = (s, Reply.refusal .notEligible) := by
  rw [takeMasterCommand, answer_active ha, answer_pass _ (by simp [h]), answer_fail _ (by simp [he])]

theorem takeMasterCommand_takes (ha : (s.slot c).state = .active) (h : s.master = none) (he : s.isEligible c = true) :
    takeMasterCommand c e s =
      ((s.setMaster (some c)).post c .role (.role .gained), Reply.success .ok 0 0) := by
  rw [takeMasterCommand, answer_active ha, answer_pass _ (by simp [h]), answer_pass _ (by simp [he]), answer_nil]

/-- The range step: the field names no slot, or the caller. -/
theorem handMasterCommand_badParam (ha : (s.slot c).state = .active) (hm : s.master = some c)
    (h : 8 ≤ (lowByte e.param0).toNat ∨ NamesSlot e.param0 c) :
    handMasterCommand c e s = (s, Reply.refusal .badParam) := by
  rw [handMasterCommand, answer_active ha, answer_master hm, answer_fail]
  rcases h with h | h
  · simp [slotInRange_eq_false.mpr h]
  · simp [slotField_of_names h]

/-- Past the range step the named slot decides (R141). -/
theorem handMasterCommand_inRange (ha : (s.slot c).state = .active) (hm : s.master = some c)
    (hn : NamesSlot e.param0 n) (hne : n ≠ c) :
    handMasterCommand c e s =
      s.answer [(decide ((s.slot n).state ≠ .active), .slotNotActive), (!s.isEligible n, .notEligible)]
        (((s.setMaster (some n)).post c .role (.role .lost)).post n .role (.role .gained),
          Reply.success .ok (bitsAt 0 3 n.val) 0) := by
  rw [handMasterCommand, answer_active ha, answer_master hm,
    answer_pass _ (by simp [slotInRange_of_names hn, slotField_of_names hn, hne]), slotField_of_names hn]

theorem handMasterCommand_slotNotActive (ha : (s.slot c).state = .active) (hm : s.master = some c)
    (hn : NamesSlot e.param0 n) (h : (s.slot n).state ≠ .active) :
    handMasterCommand c e s = (s, Reply.refusal .slotNotActive) :=
  (handMasterCommand_inRange ha hm hn fun he => h (he ▸ ha)).trans (answer_fail _ (by simp [h]))

theorem handMasterCommand_notEligible (ha : (s.slot c).state = .active) (hm : s.master = some c)
    (hn : NamesSlot e.param0 n) (hne : n ≠ c) (h : (s.slot n).state = .active) (he : s.isEligible n = false) :
    handMasterCommand c e s = (s, Reply.refusal .notEligible) := by
  rw [handMasterCommand_inRange ha hm hn hne, answer_pass _ (by simp [h]), answer_fail _ (by simp [he])]

theorem handMasterCommand_hands (ha : (s.slot c).state = .active) (hm : s.master = some c)
    (hn : NamesSlot e.param0 n) (hne : n ≠ c) (h : (s.slot n).state = .active) (he : s.isEligible n = true) :
    handMasterCommand c e s =
      (((s.setMaster (some n)).post c .role (.role .lost)).post n .role (.role .gained),
        Reply.success .ok (bitsAt 0 3 n.val) 0) := by
  rw [handMasterCommand_inRange ha hm hn hne, answer_pass _ (by simp [h]), answer_pass _ (by simp [he]), answer_nil]

theorem setMaster_tables (s : State) (x : Option SlotId) : SameTables s (s.setMaster x) := ⟨rfl, rfl, rfl⟩

theorem setMaster_clock (s : State) (x : Option SlotId) : SameClock s (s.setMaster x) := ⟨rfl, rfl, rfl, rfl⟩

theorem setMaster_outside (s : State) (x : Option SlotId) : SameOutside s (s.setMaster x) :=
  ⟨rfl, rfl, rfl, rfl, rfl⟩

/-- A take whose command gives the role to `x` and then posts notices, and nothing else. -/
theorem answered_of_role {m : State} {x : Option SlotId} {posts : List (SlotId × Subject × NoticeBody)}
    (e : CommandEntry) (y : Reply) (hbeside : SameBesideClaims ((s.popCommand c).setMaster x) m)
    (htables : SameTables ((s.popCommand c).setMaster x) m) (hposted : Posted ((s.popCommand c).setMaster x) m posts) :
    Answered s (m.pushResponse c e y) c e y ∧ (m.pushResponse c e y).master = x ∧
      (m.pushResponse c e y).eligible = s.eligible ∧ (m.pushResponse c e y).silenceLimit = s.silenceLimit ∧
      Posted s (m.pushResponse c e y) posts ∧ (m.pushResponse c e y).slots = s.slots ∧
      SameTables s (m.pushResponse c e y) ∧ SameClock s (m.pushResponse c e y) ∧
      SameOutside s (m.pushResponse c e y) :=
  ⟨answered_of_ports y hbeside.pointer hbeside.ports, hbeside.role.master, hbeside.role.eligible,
    hbeside.role.silenceLimit, hposted, hbeside.slots, ((setMaster_tables ..).trans htables).take e y,
    ((setMaster_clock ..).trans hbeside.clock).take e y, ((setMaster_outside ..).trans hbeside.outside).take e y⟩

end

/-- Settles O22: by the first check of TAKE_MASTER or HAND_MASTER that fails; past them the role moves, with its
notices. -/
theorem masterRoleTakenAndHanded : Obligations.MasterRoleTakenAndHanded := by
  unfold Obligations.MasterRoleTakenAndHanded
  refine fun s c e => ⟨?_, ?_, ?_, ?_, ?_, ?_, ?_⟩
  · rintro ⟨ht, ha⟩ h he
    exact ⟨_, runCommand_of_command ht (takeMasterCommand_takes (s := s.popCommand c) ha h he),
      answered_of_role e _ (post_beside ..) (post_tables ..) (posted_post _ c _ _)⟩
  · rintro ⟨ht, ha⟩ h
    exact ⟨_, runCommand_of_takes ht takeMasterCommand,
      onlyAnswered_of_command (takeMasterCommand_roleTaken (s := s.popCommand c) ha h)⟩
  · rintro ⟨ht, ha⟩ h he
    exact ⟨_, runCommand_of_takes ht takeMasterCommand,
      onlyAnswered_of_command (takeMasterCommand_notEligible (s := s.popCommand c) ha h he)⟩
  · rintro ⟨⟨ht, ha⟩, hm⟩ h
    exact ⟨_, runCommand_of_takes ht handMasterCommand,
      onlyAnswered_of_command (handMasterCommand_badParam (s := s.popCommand c) ha hm h)⟩
  · rintro n ⟨⟨ht, ha⟩, hm⟩ hn h
    exact ⟨_, runCommand_of_takes ht handMasterCommand,
      onlyAnswered_of_command (handMasterCommand_slotNotActive (s := s.popCommand c) ha hm hn h)⟩
  · rintro n ⟨⟨ht, ha⟩, hm⟩ hn hne h he
    exact ⟨_, runCommand_of_takes ht handMasterCommand,
      onlyAnswered_of_command (handMasterCommand_notEligible (s := s.popCommand c) ha hm hn hne h he)⟩
  · rintro n ⟨⟨ht, ha⟩, hm⟩ hn hne h he
    exact ⟨_, runCommand_of_command ht (handMasterCommand_hands (s := s.popCommand c) ha hm hn hne h he),
      answered_of_role e _ ((post_beside ..).trans (post_beside ..)) ((post_tables ..).trans (post_tables ..))
        ((posted_post _ c _ _).append (posted_post _ n _ _) fun m => slot_post _ c _ _ m)⟩

/-! ### SET_QUOTA and SET_ELIGIBLE (R138, R141) -/

section
variable {s : State} {c n : SlotId} {e : CommandEntry}

theorem quotaInRange_iff : e.quotaInRange = true ↔ 1 ≤ (lowByte e.param1).toNat ∧ (lowByte e.param1).toNat ≤ 64 := by
  simp [CommandEntry.quotaInRange]

theorem setQuotaCommand_badParam (ha : (s.slot c).state = .active) (hm : s.master = some c)
    (h : 8 ≤ (lowByte e.param0).toNat ∨ (lowByte e.param1).toNat = 0 ∨ 64 < (lowByte e.param1).toNat) :
    setQuotaCommand c e s = (s, Reply.refusal .badParam) := by
  rw [setQuotaCommand, answer_active ha, answer_master hm, answer_fail]
  rcases h with h | h
  · simp [slotInRange_eq_false.mpr h]
  · have hquota : e.quotaInRange = false := by
      rw [Bool.eq_false_iff, ne_eq, quotaInRange_iff]
      omega
    simp [hquota]

/-- In range, the records in use decide (R138). -/
theorem setQuotaCommand_inRange (ha : (s.slot c).state = .active) (hm : s.master = some c) (hn : NamesSlot e.param0 n)
    (h : 1 ≤ (lowByte e.param1).toNat ∧ (lowByte e.param1).toNat ≤ 64) :
    setQuotaCommand c e s =
      s.answer [(decide ((lowByte e.param1).toNat < s.inUse n), .quotaBelowUse)]
        (s.setSlot n { s.slot n with quota := (lowByte e.param1).toNat },
          Reply.success .ok
            (bitsAt 0 3 n.val ||| bitsAt 8 7 (lowByte e.param1).toNat ||| bitsAt 16 6 (s.inUse n)) 0) := by
  rw [setQuotaCommand, answer_active ha, answer_master hm,
    answer_pass _ (by simp [slotInRange_of_names hn, quotaInRange_iff.mpr h]), slotField_of_names hn]

theorem setEligibleCommand_badParam (ha : (s.slot c).state = .active) (hm : s.master = some c)
    (h : (lowByte e.param0).getLsbD c.val = false) : setEligibleCommand c e s = (s, Reply.refusal .badParam) := by
  rw [setEligibleCommand, answer_active ha, answer_master hm, answer_fail _ (by rw [h]; rfl)]

theorem setEligibleCommand_writes (ha : (s.slot c).state = .active) (hm : s.master = some c)
    (h : (lowByte e.param0).getLsbD c.val = true) :
    setEligibleCommand c e s =
      ({ s with eligible := lowByte e.param0 }, Reply.success .ok (bitsAt 0 8 (lowByte e.param0).toNat) 0) := by
  rw [setEligibleCommand, answer_active ha, answer_master hm, answer_pass _ (by rw [h]; rfl), answer_nil]

end

/-- Settles O23: by the range step, and by the records in use or the caller's bit of the set. -/
theorem quotaAndEligibleSetWritten : Obligations.QuotaAndEligibleSetWritten := by
  unfold Obligations.QuotaAndEligibleSetWritten
  refine fun s c e => ⟨?_, ?_, ?_⟩
  · rintro n ⟨⟨ht, ha⟩, hm⟩ hn hlow hhigh
    have hcommand := setQuotaCommand_inRange (s := s.popCommand c) ha hm hn ⟨hlow, hhigh⟩
    by_cases huse : (lowByte e.param1).toNat < s.inUse n
    · rw [answer_fail _ (by exact decide_eq_true huse)] at hcommand
      exact ⟨_, runCommand_of_takes ht setQuotaCommand, fun hfits => absurd huse (Nat.not_lt.mpr hfits),
        fun _ => onlyAnswered_of_command hcommand⟩
    · rw [answer_pass _ (by exact decide_eq_false huse), answer_nil] at hcommand
      refine ⟨_, runCommand_of_command ht hcommand, fun _ => ⟨answered_of_ports _ rfl rfl, ?_, fun m hm => ?_, rfl,
        (setSlot_tables ..).take .., (setSlot_role ..).take .., (setSlot_clock ..).take ..,
        (setSlot_outside ..).take ..⟩, fun hbelow => absurd hbelow huse⟩
      · exact (State.slot_setSlot (s.popCommand c) n _ n).trans (if_pos rfl)
      · exact (State.slot_setSlot (s.popCommand c) n _ m).trans (if_neg hm)
  · rintro ⟨⟨ht, ha⟩, hm⟩ h
    exact ⟨_, runCommand_of_takes ht setQuotaCommand,
      onlyAnswered_of_command (setQuotaCommand_badParam (s := s.popCommand c) ha hm h)⟩
  · rintro ⟨⟨ht, ha⟩, hm⟩
    by_cases h : (lowByte e.param0).getLsbD c.val = true
    · exact ⟨_, runCommand_of_command ht (setEligibleCommand_writes (s := s.popCommand c) ha hm h),
        fun _ => ⟨answered_of_ports _ rfl rfl, rfl, rfl, rfl, rfl, rfl, ⟨rfl, rfl, rfl⟩, ⟨rfl, rfl, rfl, rfl⟩,
          ⟨rfl, rfl, rfl, rfl, rfl⟩⟩, fun h' => nomatch h.symm.trans h'⟩
    · have h0 : (lowByte e.param0).getLsbD c.val = false := Bool.eq_false_iff.mpr h
      exact ⟨_, runCommand_of_takes ht setEligibleCommand, fun h' => absurd h' h,
        fun _ => onlyAnswered_of_command (setEligibleCommand_badParam (s := s.popCommand c) ha hm h0)⟩

end Sys2Proof.Machine
end

section
/-! SUPPORT. While POR# is asserted nothing is taken (R144). -/

namespace Sys2Proof.Machine

section
variable {s : State} (h : s.porAsserted = true)
include h

/-- No command is taken. -/
theorem takeWhere_asserted (isOpcode : BitVec 8 → Bool) (f : SlotId → CommandEntry → State → State × Reply) :
    s.takeWhere isOpcode f = s := if_pos h

/-- No control-block cycle is taken. -/
theorem portCycle_asserted (n : SlotId) (access : State → State) : s.portCycle n access = s := if_pos h

/-- No record runs out. -/
theorem lastTick_asserted (r : RecordId) (phase : ClaimPhase) : s.lastTick r phase = s :=
  if_neg fun hc => by simp [h] at hc

/-- No slot falls silent. -/
theorem lastSilence_asserted (n : SlotId) : s.lastSilence n = s := if_neg fun hc => by simp [h] at hc

/-- No attention output is driven. -/
theorem atn_asserted (n : SlotId) : s.atn n = false := by simp [State.atn, h]

/-- Every row but POR#'s edges, the end of a cycle and a presence line's level changes nothing. -/
theorem exec_asserted (i : Instr) (hreset : ∀ elig, i ≠ .powerOnReset elig) (hpor : i ≠ .porAsserted)
    (hend : i ≠ .cycleEnd) (hrise : ∀ n, i ≠ .presRise n) (hfall : ∀ n, i ≠ .presFall n) : exec i s = .next s := by
  have hcycle (n : SlotId) (inside : Bool) (access : State → State) :
      (if inside then s.portCycle n access else s) = s := by
    rw [portCycle_asserted h, ite_self]
  cases i with
  | join | leave | claim | withdraw | release | renew | upgrade | downgrade | transfer | queryWindow | querySlot
  | takeMaster | define | undefine | openWindow | closeWindow | recallWindow | evict | setQuota | setEligible
  | setTiming | handMaster | unknownOpcode => exact congrArg Host.Outcome.next (takeWhere_asserted h _ _)
  | respPop | notice0Read | noticePop | attnEnWrite => exact congrArg Host.Outcome.next (portCycle_asserted h _ _)
  | controlBlockWrite | controlBlockRead => exact congrArg Host.Outcome.next (hcycle _ _ _)
  | waitTimeout | leaseExpiry | graceExpiry | recallLimitExpiry =>
    exact congrArg Host.Outcome.next (lastTick_asserted h _ _)
  | silenceExpiry => exact congrArg Host.Outcome.next (lastSilence_asserted h _)
  | cycleCheck | claimTableTick | slotTableTick => exact congrArg Host.Outcome.next (if_pos (.inl h))
  | tick | slotReset | backplaneReset => exact congrArg Host.Outcome.next (if_pos h)
  | cycleEnd => exact absurd rfl hend
  | presRise n => exact absurd rfl (hrise n)
  | presFall n => exact absurd rfl (hfall n)
  | powerOnReset elig => exact absurd rfl (hreset elig)
  | porAsserted => exact absurd rfl hpor

end

/-- Settles O4: row by row; the level of a presence line is followed, and its change is not taken. -/
theorem nothingTakenUnderPowerOnReset : Obligations.NothingTakenUnderPowerOnReset := by
  unfold Obligations.NothingTakenUnderPowerOnReset
  intro s i h
  exact ⟨atn_asserted h, exec_asserted h i,
    fun n => ⟨congrArg Host.Outcome.next (if_pos h), congrArg Host.Outcome.next (if_pos h)⟩⟩

end Sys2Proof.Machine
end

section
/-! SUPPORT. The notice queue under a post, its bound, and the attention output (R148, R149, R155). -/

namespace Sys2Proof.Machine

/-! ### One queue under a post (R149) -/

section
variable (x : Subject) (b : NoticeBody)

/-- Where no notice on its subject stands, a notice joins the tail. -/
theorem enqueueNotice_joins {q : List Notice} (h : ∀ k ∈ q, k.subject ≠ x) :
    enqueueNotice x b q = q ++ [{ subject := x, body := b, folded := false }] := by
  induction q with
  | nil => rfl
  | cons k q ih =>
    obtain ⟨hk, hq⟩ := List.forall_mem_cons.mp h
    rw [enqueueNotice, if_neg hk, ih hq, List.cons_append]

/-- It folds into the first notice on its subject, in that notice's place. -/
theorem enqueueNotice_folds {front back : List Notice} {k : Notice} (hk : k.subject = x)
    (h : ∀ j ∈ front, j.subject ≠ x) :
    enqueueNotice x b (front ++ k :: back) = front ++ { subject := x, body := b, folded := true } :: back := by
  induction front with
  | nil => rw [List.nil_append, enqueueNotice, if_pos hk, hk, List.nil_append]
  | cons j front ih =>
    obtain ⟨hj, hfront⟩ := List.forall_mem_cons.mp h
    rw [List.cons_append, enqueueNotice, if_neg hj, ih hfront, List.cons_append]

/-- Distinct subjects stay distinct. -/
theorem enqueueNotice_nodup {q : List Notice} (h : (q.map Notice.subject).Nodup) :
    ((enqueueNotice x b q).map Notice.subject).Nodup := by
  rw [enqueueNotice_subjects]
  split
  · exact h
  · next hx => simpa only [List.concat_eq_append] using h.concat hx

/-- A post to a slot that is not ABSENT reaches its queue (R148). -/
theorem queue_post_self {s : State} {n : SlotId} (h : (s.slot n).state ≠ .absent) :
    (s.post n x b).queue n = enqueueNotice x b (s.queue n) := by
  rw [queue_post, if_pos ⟨rfl, h⟩]

end

/-! ### How many notices a queue can hold (R149) -/

theorem Subject.code_lt (x : Subject) : x.code < 42 := by
  cases x with
  | window w => exact w.isLt.trans (by decide)
  | unmapped | role => decide
  | slot n => exact (Nat.add_lt_add_left n.isLt 33).trans (by decide)

/-- The subject that a code below 42 stands for: 32 windows, UNMAPPED, eight slots and the role (10.8). -/
def Subject.ofCode (v : Nat) : Subject :=
  if v < 32 then .window (Fin.ofNat 32 v)
  else if v = 32 then .unmapped
  else if v < 41 then .slot (Fin.ofNat 8 (v - 33))
  else .role

theorem Subject.ofCode_code (x : Subject) : Subject.ofCode x.code = x := by
  cases x with
  | window w => simp [Subject.code, Subject.ofCode]
  | unmapped => rfl
  | slot n =>
    have hlow : ¬33 + n.val < 32 := by omega
    have hne : ¬33 + n.val = 32 := by omega
    have hhigh : 33 + n.val < 41 := by omega
    simp [Subject.code, Subject.ofCode, hlow, hne, hhigh]
  | role => rfl

theorem Subject.code_injective : Function.Injective Subject.code :=
  Function.LeftInverse.injective Subject.ofCode_code

theorem length_le_of_subjects_nodup {q : List Notice} (h : (q.map Notice.subject).Nodup) : q.length ≤ 42 := by
  have hcodes : ((q.map Notice.subject).map fun x => (⟨x.code, x.code_lt⟩ : Fin 42)).Nodup :=
    h.map fun _ _ he => Subject.code_injective (Fin.mk.inj he)
  simpa using hcodes.length_le_card

/-! ### The attention output (R144, R155) -/

theorem atn_eq_true {s : State} (h : s.porAsserted = false) (n : SlotId) :
    s.atn n = true ↔ s.queue n ≠ [] ∧ (s.port n).attnEnable = true := by
  simp [State.atn, h, and_comm]

/-- Settles O12: by the level of POR#. -/
theorem attentionFollowsQueue : Obligations.AttentionFollowsQueue := by
  unfold Obligations.AttentionFollowsQueue
  exact fun s n => ⟨fun h => atn_eq_true h n, fun h => atn_asserted h n⟩

end Sys2Proof.Machine
end

section
/-! SUPPORT. Control-block cycles: the words they answer (10.8), how one is done, the pops, and the reads (R151, R152,
R154, R157, R158, R163, R164). -/

namespace Sys2Proof.Machine

/-! ### The words a read answers (10.8) -/

theorem status_fields (s : State) (n : SlotId) :
    (s.status n).extractLsb' 0 3 = BitVec.ofNat 3 (4 - (s.port n).commands.length) ∧
      (s.status n).extractLsb' 4 3 = BitVec.ofNat 3 (s.port n).responses.length ∧
      (s.status n).extractLsb' 8 6 = BitVec.ofNat 6 (s.queue n).length ∧
      (s.status n).extractLsb' 16 2 = BitVec.ofNat 2 (s.slot n).state.code ∧
      (s.status n).extractLsb' 20 3 = BitVec.ofNat 3 (s.slot n).exitReason.code ∧
      (s.status n).getLsbD 24 = decide (s.master = some n) := by
  simp [State.status, BitVec.extractLsb'_or, SlotPort.freeEntries, Config.fifoDepth]

theorem response_word0_fields (x : Response) :
    x.word0.extractLsb' 0 8 = x.tag ∧ x.word0.extractLsb' 8 8 = x.opcode ∧
      x.word0.extractLsb' 16 5 = BitVec.ofNat 5 x.outcome.code ∧ x.word0.extractLsb' 21 11 = x.ext := by
  simp [Response.word0, BitVec.extractLsb'_or]

theorem notice_word0_fields (k : Notice) :
    k.word0.extractLsb' 0 8 = BitVec.ofNat 8 k.body.kind ∧ k.word0.extractLsb' 8 8 = BitVec.ofNat 8 k.subject.code ∧
      k.word0.getLsbD 16 = k.folded ∧ k.word0.extractLsb' 17 15 = 0 := by
  simp [Notice.word0, BitVec.extractLsb'_or]

theorem bitAt_zero (b : Bool) : bitAt 0 b = if b then 1 else 0 := by
  cases b <;> rfl

/-! ### The reload of the silence counter (R158) -/

section
variable (s : State) (n m : SlotId)

@[simp] theorem port_reloadSilence : (s.reloadSilence n).port m = s.port m := by
  rw [reloadSilence_eq, State.port_setSlot]

@[simp] theorem queue_reloadSilence : (s.reloadSilence n).queue m = s.queue m := by
  rw [reloadSilence_eq, State.queue_setSlot]

theorem reloadSilence_of_not_active {s : State} {n : SlotId} (h : (s.slot n).state ≠ .active) :
    s.reloadSilence n = s := if_neg h

/-- The reload shows in no field of STATUS (R164). -/
@[simp] theorem status_reloadSilence : (s.reloadSilence n).status n = s.status n := by
  have hreason : ((s.reloadSilence n).slot n).exitReason = (s.slot n).exitReason := by
    rw [slot_reloadSilence]
    split <;> rfl
  have hmaster : (s.reloadSilence n).master = s.master := by rw [reloadSilence_eq, State.master_setSlot]
  simp only [State.status, port_reloadSilence, queue_reloadSilence, (reloadSilence_still s n).state, hreason, hmaster]

end

/-! ### A control-block cycle that is done (R157, R158) -/

section
variable {s t : State} {n : SlotId} {a : PortAnswer}

/-- A cycle that changes no port and no queue. -/
theorem portCycleDone_reload (s : State) (n : SlotId) (a : PortAnswer) :
    PortCycleDone s ((s.reloadSilence n).answerPort a) n a := by
  rw [reloadSilence_eq]
  exact {
    answer := rfl
    inHand := rfl
    own := (State.slot_setSlot s n _ n).trans (if_pos rfl)
    otherSlots := fun m hm => (State.slot_setSlot s n _ m).trans (if_neg hm)
    otherPorts := fun _ _ => rfl
    otherQueues := fun _ _ => rfl
    tables := ⟨rfl, rfl, rfl⟩
    role := ⟨rfl, rfl, rfl⟩
    clock := ⟨rfl, rfl, rfl, rfl⟩
    pointer := rfl
    presLines := rfl
    porAsserted := rfl
    pending := rfl }

/-- An ABSENT slot has no silence counter to reload. -/
theorem portCycleDone_absent (h : (s.slot n).state = .absent) (a : PortAnswer) :
    PortCycleDone s (s.answerPort a) n a := by
  have hdone := portCycleDone_reload s n a
  rwa [reloadSilence_of_not_active (by simp [h])] at hdone

/-- The cycle may change its own slot's port. -/
theorem PortCycleDone.setPort (h : PortCycleDone s t n a) (x : SlotPort) : PortCycleDone s (t.setPort n x) n a :=
  { h with
    otherPorts := fun m hm => (State.port_setPort t n x m).trans ((if_neg hm).trans (h.otherPorts m hm))
    tables := h.tables.trans ⟨rfl, rfl, rfl⟩
    role := h.role.trans ⟨rfl, rfl, rfl⟩
    clock := h.clock.trans ⟨rfl, rfl, rfl, rfl⟩ }

/-- The cycle may change its own slot's notice queue. -/
theorem PortCycleDone.setQueue (h : PortCycleDone s t n a) (x : List Notice) : PortCycleDone s (t.setQueue n x) n a :=
  { h with
    otherQueues := fun m hm => (State.queue_setQueue t n x m).trans ((if_neg hm).trans (h.otherQueues m hm))
    tables := h.tables.trans ⟨rfl, rfl, rfl⟩
    role := h.role.trans ⟨rfl, rfl, rfl⟩
    clock := h.clock.trans ⟨rfl, rfl, rfl, rfl⟩ }

/-- An ABSENT slot's cycle is refused (R157). -/
theorem portCycle_absent (hpor : s.porAsserted = false) (ha : (s.slot n).state = .absent) (access : State → State) :
    s.portCycle n access = s.refuseAccess := by
  simp [State.portCycle, hpor, ha]

/-- Any other slot's cycle is its access, after the reload (R158). -/
theorem portCycle_taken (hpor : s.porAsserted = false) (ha : (s.slot n).state ≠ .absent) (access : State → State) :
    s.portCycle n access = access (s.reloadSilence n) := by
  simp [State.portCycle, hpor, ha]

end

/-! ### What the accesses leave in the port and the queue (R151, R152, R154, R163) -/

section
variable (s : State) (n m : SlotId)

@[simp] theorem port_acceptAccess (data : Word) : (s.acceptAccess data).port m = s.port m := rfl

@[simp] theorem queue_acceptAccess (data : Word) : (s.acceptAccess data).queue m = s.queue m := rfl

@[simp] theorem port_popResponse :
    (s.popResponse n).port n = { s.port n with responses := (s.port n).responses.tail } :=
  (State.port_setPort s n _ n).trans (if_pos rfl)

@[simp] theorem queue_popResponse : (s.popResponse n).queue m = s.queue m := rfl

@[simp] theorem port_popNotice : (s.popNotice n).port m = s.port m := rfl

@[simp] theorem queue_popNotice : (s.popNotice n).queue n = (s.queue n).tail :=
  (State.queue_setQueue s n _ n).trans (if_pos rfl)

@[simp] theorem port_writeAttn (value : Word) :
    (s.writeAttn n value).port n = { s.port n with attnEnable := value.getLsbD 0 } :=
  (State.port_setPort s n _ n).trans (if_pos rfl)

@[simp] theorem queue_writeAttn (value : Word) : (s.writeAttn n value).queue m = s.queue m := rfl

@[simp] theorem port_presentNotice :
    (s.presentNotice n).port n = { s.port n with holding := noticeHoldingWord (s.queue n) } :=
  (State.port_setPort s n _ n).trans (if_pos rfl)

@[simp] theorem queue_presentNotice : (s.presentNotice n).queue m = s.queue m := rfl

end

/-! ### The four rows of the notice and response ports -/

section
variable {s : State} {n : SlotId} (hpor : s.porAsserted = false) (ha : (s.slot n).state ≠ .absent)
include hpor ha

theorem exec_respPop (value : Word) :
    exec (.respPop n value) s = .next (((s.reloadSilence n).popResponse n).acceptAccess 0) :=
  congrArg Host.Outcome.next (portCycle_taken hpor ha _)

theorem exec_noticePop (value : Word) :
    exec (.noticePop n value) s = .next (((s.reloadSilence n).popNotice n).acceptAccess 0) :=
  congrArg Host.Outcome.next (portCycle_taken hpor ha _)

theorem exec_attnEnWrite (value : Word) :
    exec (.attnEnWrite n value) s = .next (((s.reloadSilence n).writeAttn n value).acceptAccess 0) :=
  congrArg Host.Outcome.next (portCycle_taken hpor ha _)

theorem exec_notice0Read :
    exec (.notice0Read n) s =
      .next (((s.reloadSilence n).presentNotice n).acceptAccess (noticeHeadWord (s.queue n))) := by
  rw [← queue_reloadSilence s n n]
  exact congrArg Host.Outcome.next (portCycle_taken hpor ha _)

end

/-- Settles O41: each row is one access to the port or the queue of a slot that is not ABSENT, after the reload. -/
theorem portPopsReadsAndEnable : Obligations.PortPopsReadsAndEnable := by
  unfold Obligations.PortPopsReadsAndEnable
  intro s n value hpor ha
  have hdone := portCycleDone_reload s n
  refine ⟨⟨_, exec_respPop hpor ha value, (hdone _).setPort _, by simp, by simp⟩,
    ⟨_, exec_noticePop hpor ha value, (hdone _).setQueue _, by simp, by simp⟩,
    ⟨_, exec_attnEnWrite hpor ha value, (hdone _).setPort _, by simp, by simp⟩,
    fun hq => ?_, fun k back hq => ?_⟩
  · have hexec := exec_notice0Read hpor ha
    rw [hq] at hexec
    exact ⟨_, hexec, (hdone _).setPort _, by simp [hq, noticeHoldingWord], by simp [hq]⟩
  · have hexec := exec_notice0Read hpor ha
    rw [hq] at hexec
    obtain ⟨hkind, hsubject, hfolded, hrest⟩ := notice_word0_fields k
    exact ⟨_, _, hexec, (hdone _).setPort _, hkind, hsubject, hfolded, hrest, by simp [hq, noticeHoldingWord],
      by simp⟩

/-! ### A read of the control block (R157, R158) -/

/-- What a control-block read does, at any address of the block and of any width (R157). -/
def State.readCycle (s : State) (n : SlotId) (addr : Word) (width : Nat) : State :=
  s.portCycle n fun s => if accessAligned addr width then s.readPort n (portOffset addr) else s.refuseAccess

section
variable {s : State} {n : SlotId} {addr : Word} {width : Nat}

theorem exec_controlBlockRead (h : inControlBlock addr = true) :
    exec (.controlBlockRead n addr width) s = .next (s.readCycle n addr width) :=
  congrArg Host.Outcome.next (if_pos h)

/-- No read changes a queue. -/
theorem notices_readPort (s : State) (n : SlotId) (offset : Nat) : (s.readPort n offset).notices = s.notices := by
  unfold State.readPort
  split <;> rfl

/-- A read but that of NOTICE0 changes no port. -/
theorem ports_readPort {offset : Nat} (h : offset ≠ 0x28) : (s.readPort n offset).ports = s.ports := by
  unfold State.readPort
  split
  case h_11 => exact absurd rfl h
  all_goals rfl

/-- Offsets 34h to 3Fh name no register. -/
theorem readPort_beyond {offset : Nat} (h : 0x34 ≤ offset) : s.readPort n offset = s.refuseAccess := by
  unfold State.readPort
  split
  case h_14 => rfl
  all_goals exact absurd h (by decide)

/-- A read is of an ABSENT slot, or not 32 bits wide at a multiple of 4, or it reads its offset (R157, R158). -/
theorem readCycle_cases (n : SlotId) (addr : Word) (width : Nat) (hpor : s.porAsserted = false) :
    ((s.slot n).state = .absent ∧ s.readCycle n addr width = s.refuseAccess) ∨
      ((s.slot n).state ≠ .absent ∧ (width ≠ 32 ∨ addr.toNat % 4 ≠ 0) ∧
        s.readCycle n addr width = (s.reloadSilence n).refuseAccess) ∨
      ((s.slot n).state ≠ .absent ∧ width = 32 ∧ addr.toNat % 4 = 0 ∧
        s.readCycle n addr width = (s.reloadSilence n).readPort n (portOffset addr)) := by
  by_cases ha : (s.slot n).state = .absent
  · exact .inl ⟨ha, portCycle_absent hpor ha _⟩
  · have htaken : s.readCycle n addr width = _ := portCycle_taken hpor ha _
    refine .inr ?_
    by_cases h : accessAligned addr width = true
    · rw [if_pos h] at htaken
      simp only [accessAligned, Bool.and_eq_true, decide_eq_true_eq] at h
      exact .inr ⟨ha, h.1, h.2, htaken⟩
    · rw [if_neg h] at htaken
      simp only [accessAligned, Bool.and_eq_true, decide_eq_true_eq, not_and_or] at h
      exact .inl ⟨ha, h, htaken⟩

theorem queue_readCycle (hpor : s.porAsserted = false) (m : SlotId) :
    (s.readCycle n addr width).queue m = s.queue m := by
  obtain ⟨-, h⟩ | ⟨-, -, h⟩ | ⟨-, -, -, h⟩ := readCycle_cases n addr width hpor <;> rw [h]
  · rfl
  · exact queue_reloadSilence ..
  · rw [State.queue, notices_readPort]
    exact queue_reloadSilence ..

theorem portOffset_ne (h : addr ≠ 0x4A28) : portOffset addr ≠ 0x28 := by
  intro hoffset
  have haddr : addr.toNat = 0x4A28 := by
    simp only [portOffset, Config.controlLow] at hoffset
    omega
  exact h (BitVec.eq_of_toNat_eq haddr)

theorem port_readCycle (hpor : s.porAsserted = false) (h : addr ≠ 0x4A28) (m : SlotId) :
    (s.readCycle n addr width).port m = s.port m := by
  obtain ⟨-, he⟩ | ⟨-, -, he⟩ | ⟨-, -, -, he⟩ := readCycle_cases n addr width hpor <;> rw [he]
  · rfl
  · exact port_reloadSilence ..
  · rw [State.port, ports_readPort (portOffset_ne h)]
    exact port_reloadSilence ..

/-- The reads that are refused: an ABSENT slot's, those of another width or alignment, and those of no register
(R157). -/
theorem readCycle_refused (hpor : s.porAsserted = false)
    (h : (s.slot n).state = .absent ∨ width ≠ 32 ∨ addr.toNat % 4 ≠ 0 ∨ 0x4A34 ≤ addr.toNat) :
    PortCycleDone s (s.readCycle n addr width) n .refused ∧ (s.readCycle n addr width).port n = s.port n := by
  obtain ⟨ha, he⟩ | ⟨-, -, he⟩ | ⟨ha, hw, h4, he⟩ := readCycle_cases n addr width hpor
  · rw [he]
    exact ⟨portCycleDone_absent ha _, rfl⟩
  · rw [he]
    exact ⟨portCycleDone_reload s n _, port_reloadSilence ..⟩
  · have hhigh : 0x4A34 ≤ addr.toNat := by simpa [ha, hw, h4] using h
    have hoffset : 0x34 ≤ portOffset addr := by
      simp only [portOffset, Config.controlLow]
      omega
    rw [he, readPort_beyond hoffset]
    exact ⟨portCycleDone_reload s n _, port_reloadSilence ..⟩

section
variable {offset : Nat} (hpor : s.porAsserted = false) (ha : (s.slot n).state ≠ .absent)
  (haddr : addr.toNat % 4 = 0 ∧ portOffset addr = offset)
include hpor ha haddr

theorem readCycle_aligned : s.readCycle n addr 32 = (s.reloadSilence n).readPort n offset := by
  simp [State.readCycle, portCycle_taken hpor ha, accessAligned, haddr.1, haddr.2]

/-- A register that reads a word of the port. -/
theorem readCycle_portWord (f : SlotPort → Word)
    (h : ∀ t : State, t.readPort n offset = t.acceptAccess (f (t.port n))) :
    PortCycleDone s (s.readCycle n addr 32) n (.accepted (f (s.port n))) := by
  rw [readCycle_aligned hpor ha haddr, h, port_reloadSilence]
  exact portCycleDone_reload s n _

end

/-- STATUS reads as it stands before the cycle (R164). -/
theorem readCycle_status (hpor : s.porAsserted = false) (ha : (s.slot n).state ≠ .absent) :
    PortCycleDone s (s.readCycle n 0x4A00 32) n (.accepted (s.status n)) := by
  rw [readCycle_aligned (offset := 0x00) hpor ha (by decide), ← status_reloadSilence]
  exact portCycleDone_reload s n _

end

theorem respWord_of_cons {p : SlotPort} {x : Response} {back : List Response} (h : p.responses = x :: back) :
    p.respWord 0 = x.word0 ∧ p.respWord 1 = x.word1 ∧ p.respWord 2 = x.word2 := by
  simp [SlotPort.respWord, h]

theorem respWord_of_nil {p : SlotPort} (h : p.responses = []) (i : Nat) : p.respWord i = 0 := by
  simp [SlotPort.respWord, h]

/-- Settles O43: register by register; all but STATUS and NOTICE0 read a word of the port. -/
theorem controlBlockReads : Obligations.ControlBlockReads := by
  unfold Obligations.ControlBlockReads
  intro s n addr width hpor hin
  refine ⟨_, exec_controlBlockRead hin, queue_readCycle hpor n, fun h => port_readCycle hpor h n,
    readCycle_refused hpor, fun ha hwidth => ?_⟩
  subst hwidth
  have hword (addr : Word) (offset : Nat) :=
    readCycle_portWord (s := s) (n := n) (addr := addr) (offset := offset) hpor ha
  refine ⟨?status, ?attnEn, ?param0, ?param1, ?param2, ?zero, ?resp0, ?resp1, ?resp2, ?respEmpty, ?notice0,
    ?notice1⟩
  case status =>
    rintro rfl
    exact ⟨_, readCycle_status hpor ha, status_fields s n⟩
  case attnEn =>
    rintro rfl
    exact hword _ 0x04 (by decide) (fun p => if p.attnEnable then 1 else 0) fun t =>
      congrArg t.acceptAccess (bitAt_zero (t.port n).attnEnable)
  case param0 =>
    rintro rfl
    exact hword _ 0x08 (by decide) SlotPort.param0 fun _ => rfl
  case param1 =>
    rintro rfl
    exact hword _ 0x0C (by decide) SlotPort.param1 fun _ => rfl
  case param2 =>
    rintro rfl
    exact hword _ 0x10 (by decide) SlotPort.param2 fun _ => rfl
  case zero =>
    intro h
    simp only [List.mem_cons, List.not_mem_nil, or_false] at h
    rcases h with rfl | rfl | rfl
    · exact hword _ 0x14 (by decide) (fun _ => 0) fun _ => rfl
    · exact hword _ 0x24 (by decide) (fun _ => 0) fun _ => rfl
    · exact hword _ 0x30 (by decide) (fun _ => 0) fun _ => rfl
  case resp0 =>
    rintro rfl x back hx
    have hread := hword 0x4A18 0x18 (by decide) (SlotPort.respWord · 0) fun _ => rfl
    rw [(respWord_of_cons hx).1] at hread
    exact ⟨_, hread, response_word0_fields x⟩
  case resp1 =>
    rintro rfl x back hx
    rw [← (respWord_of_cons hx).2.1]
    exact hword _ 0x1C (by decide) (SlotPort.respWord · 1) fun _ => rfl
  case resp2 =>
    rintro rfl x back hx
    rw [← (respWord_of_cons hx).2.2]
    exact hword _ 0x20 (by decide) (SlotPort.respWord · 2) fun _ => rfl
  case respEmpty =>
    intro h hnil
    simp only [List.mem_cons, List.not_mem_nil, or_false] at h
    rcases h with rfl | rfl | rfl
    · rw [← respWord_of_nil hnil 0]
      exact hword _ 0x18 (by decide) (SlotPort.respWord · 0) fun _ => rfl
    · rw [← respWord_of_nil hnil 1]
      exact hword _ 0x1C (by decide) (SlotPort.respWord · 1) fun _ => rfl
    · rw [← respWord_of_nil hnil 2]
      exact hword _ 0x20 (by decide) (SlotPort.respWord · 2) fun _ => rfl
  case notice0 =>
    rintro rfl
    rw [exec_notice0Read hpor ha, readCycle_aligned (offset := 0x28) hpor ha (by decide), ← queue_reloadSilence s n n]
    rfl
  case notice1 =>
    rintro rfl
    exact hword _ 0x2C (by decide) SlotPort.holding fun _ => rfl

end Sys2Proof.Machine
end

section
/-! SUPPORT. No queue ever comes to hold two notices on one subject, whatever the slots' states (R149). `QueuesLawful`,
which the standing laws keep, also asks that an ABSENT slot's queue is empty; this does not. A state with the same notices
keeps it by definition, so the lemmas are about the operations that post, pop or empty. -/

namespace Sys2Proof.Machine

/-- No queue holds two notices on one subject (R149). -/
def DistinctSubjects (s : State) : Prop := ∀ n, ((s.queue n).map Notice.subject).Nodup

namespace DistinctSubjects

/-! ### Notices and emptied queues (R149, R156) -/

section
variable {s : State} (h : DistinctSubjects s)
include h

theorem setQueue (n : SlotId) {q : List Notice} (hq : (q.map Notice.subject).Nodup) :
    DistinctSubjects (s.setQueue n q) := by
  intro m
  rw [State.queue_setQueue]
  split
  · exact hq
  · exact h m

theorem of_notices {t : State} (k : t.notices = s.notices) : DistinctSubjects t := fun n => by
  simpa only [State.queue, k] using h n

theorem post (n : SlotId) (x : Subject) (b : NoticeBody) : DistinctSubjects (s.post n x b) := by
  unfold State.post
  split
  · exact h
  · exact h.setQueue n (enqueueNotice_nodup x b (h n))

theorem postToMaster (except : Option SlotId) (x : Subject) (b : NoticeBody) :
    DistinctSubjects (s.postToMaster except x b) := by
  obtain ⟨he, -⟩ | ⟨m, -, -, he, -⟩ := postToMaster_cases s except x b
  · rwa [he]
  · rw [he]
    exact h.post m x b

theorem emptyQueue (n : SlotId) : DistinctSubjects (s.emptyQueue n) := h.setQueue n List.nodup_nil

theorem popNotice (n : SlotId) : DistinctSubjects (s.popNotice n) :=
  h.setQueue n (by rw [List.map_tail]; exact (h n).tail)

theorem reloadSilence (n : SlotId) : DistinctSubjects (s.reloadSilence n) := by
  rw [reloadSilence_eq]
  exact h

theorem reloadAllSilence : DistinctSubjects s.reloadAllSilence := by
  obtain ⟨slots, he⟩ := (reloadAllSilence_revised s).rest
  rw [he]
  exact h

theorem selectTick (select : Fin 4) : DistinctSubjects (s.selectTick select) := by
  rw [selectTick_eq]
  exact of_notices h rfl

/-! ### The Claim Table's procedures (R34, R35, R46 to R48, R95, R102) -/

theorem grant (r : RecordId) : DistinctSubjects (s.grant r) :=
  post (s := (s.setClaim _ _).setRecord r _) h _ _ _

omit h in
theorem grantBatch : ∀ (l : List RecordId) {s : State}, DistinctSubjects s → DistinctSubjects (s.grantBatch l)
  | [], _, h => h
  | r :: l, s, h => by
    unfold State.grantBatch
    split
    · exact grantBatch l (h.grant r)
    · exact h

theorem completeUpgrade (w : WindowId) (r : RecordId) : DistinctSubjects (s.completeUpgrade w r) :=
  post (s := (s.restartHold r .exclusive).setClaim w _) h _ _ _

theorem grantSteps (w : WindowId) : DistinctSubjects (s.grantSteps w) := by
  unfold State.grantSteps
  split
  · split
    · split
      · exact h.completeUpgrade _ _
      · exact h
    · exact h
  · split
    · exact h
    · split
      · split
        · exact h.grant _
        · exact h
      · split
        · exact grantBatch _ h
        · exact h

theorem grantPass (w : WindowId) : DistinctSubjects (s.grantPass w) := by
  unfold State.grantPass
  split
  · exact h.grantSteps w
  · exact h

theorem lastHoldRetired (w : WindowId) (x : Option SlotId) : DistinctSubjects (s.lastHoldRetired w x) := by
  unfold State.lastHoldRetired
  split
  · exact postToMaster (s := (s.setClaim w _).setWindow w _) h _ _ _
  · exact h

theorem followUps (w : WindowId) (held : Bool) (x : Option SlotId) : DistinctSubjects (s.followUps w held x) := by
  unfold State.followUps
  split
  · exact (h.lastHoldRetired w x).grantPass w
  · exact h.grantPass w

theorem retireAlone (r : RecordId) (x : Option SlotId) : DistinctSubjects (s.retireAlone r x) :=
  followUps (s := s.retire r) h _ _ _

theorem exitRecords (n : SlotId) : DistinctSubjects (s.exitRecords n) := by
  refine foldl_keeps (fun t w ht => ?_) allWindows s h
  unfold State.exitWindow
  split
  · exact ht
  · exact ht.retireAlone _ _

theorem recallHolds (w : WindowId) (u : Option SlotId) : DistinctSubjects (s.recallHolds w u) := by
  refine foldl_keeps (fun t r ht => ?_) (s.holders w) s h
  unfold State.recallHold
  split
  · exact ht
  · exact post (s := t.setPhase r .recalled _) ht _ _ _

theorem closeOpen (w : WindowId) : DistinctSubjects (s.closeOpen w) := by
  unfold State.closeOpen
  extract_lets u s1 src s2
  have h1 : DistinctSubjects s1 := foldl_keeps (fun t r ht => post (s := t.retire r) ht _ _ _) _ s h
  have h2 : DistinctSubjects s2 := h1
  split
  · exact postToMaster (s := s2.setWindowState w .closed) h2 _ _ _
  · exact of_notices (h2.recallHolds w u) rfl

theorem placeGiven (w : WindowId) (b : Option SlotId) : DistinctSubjects (s.placeGiven w b).1 := by
  unfold State.placeGiven State.placeBeneficiary
  repeat' split
  all_goals exact h

theorem expire (r : RecordId) : DistinctSubjects (s.expire r) := by
  unfold State.expire
  extract_lets c
  split
  · exact h
  · exact post (s := s.retire r) h _ _ _
  · exact post (s := s.setPhase r .lapsing _) h _ _ _
  · exact post (s := s.retire r) h _ _ _
  · exact post (s := s.retire r) h _ _ _

theorem tickClaims : DistinctSubjects s.tickClaims := by
  refine foldl_keeps (fun t w ht => ?_) allWindows s h
  unfold State.tickWindow
  extract_lets due t2
  have h2 : DistinctSubjects t2 := foldl_keeps (fun _ r hu => hu.expire r) due (t.countWindow w) ht
  split
  · exact h2.followUps _ _ _
  · exact h2

theorem lastTick (r : RecordId) (phase : ClaimPhase) : DistinctSubjects (s.lastTick r phase) := by
  unfold State.lastTick
  extract_lets c
  split
  · split
    · exact h.expire r
    · exact (h.expire r).followUps _ _ _
  · exact h

/-! ### Slots that stop taking part, and the ticks at the Slot Table (R129, R130, R134, R135) -/

theorem exitPort (n : SlotId) (reason : ExitReason) : DistinctSubjects (s.exitPort n reason) := by
  cases reason with
  | none => exact h
  | left | reset | removed => exact of_notices (h.emptyQueue n) rfl
  | silent | evicted => exact (h.emptyQueue n).post _ _ _

theorem stop (n : SlotId) (reason : ExitReason) : DistinctSubjects (s.stop n reason) :=
  exitPort (s := s.leaveActive n reason) h _ _

theorem exitRole (n : SlotId) : DistinctSubjects (s.exitRole n) := by
  unfold State.exitRole
  split
  · refine foldl_keeps (fun t m ht => ?_) allSlots (s.setMaster none) h
    unfold State.tellVacant
    split
    · exact ht.post _ _ _
    · exact ht
  · exact h

theorem exit (n : SlotId) (reason : ExitReason) : DistinctSubjects (s.exit n reason) := by
  have hstop := (h.exitRecords n).stop n reason
  rw [exit_eq]
  split
  · exact hstop.exitRole n
  · exact (hstop.postToMaster _ _ _).exitRole n

theorem rise (n : SlotId) : DistinctSubjects (s.rise n) := by
  unfold State.rise
  split
  · exact postToMaster (s := s.setSlot n _) h _ _ _
  · exact h

theorem fall (n : SlotId) : DistinctSubjects (s.fall n) := by
  unfold State.fall
  split
  · exact h.exit n .removed
  · exact (h.stop n .removed).postToMaster _ _ _
  · exact h

theorem slotReset (n : SlotId) : DistinctSubjects (s.slotReset n) := by
  unfold State.slotReset
  split
  · exact h.exit n .reset
  · exact (h.stop n .reset).postToMaster _ _ _
  · exact h

theorem tickSlots : DistinctSubjects s.tickSlots := by
  unfold State.tickSlots
  split
  · exact h
  · refine foldl_keeps (fun t n ht => ?_) allSlots s h
    unfold State.tickSlot
    split
    · split
      · exact ht.exit n .silent
      · exact ht
    · exact ht

theorem lastSilence (n : SlotId) : DistinctSubjects (s.lastSilence n) := by
  unfold State.lastSilence
  split
  · exact h.exit n .silent
  · exact h

theorem refclk : DistinctSubjects s.refclk := by
  unfold State.refclk
  repeat' split
  all_goals exact h

/-! ### Cycles on the backplane (R111, R157) -/

theorem judged (n : SlotId) (addr : Word) (kind : AccessKind) (v : Verdict) :
    DistinctSubjects (s.judged n addr kind v) := by
  cases v with
  | passHolder w r =>
    rw [State.judged]
    obtain he | he := renewByAccess_cases s w r <;> rw [he] <;> exact h
  | passForeign | holdOff => exact h
  | refuse => exact h.post _ _ _

theorem checkCycle (n : SlotId) (addr : Word) (kind : AccessKind) : DistinctSubjects (s.checkCycle n addr kind) := by
  rw [checkCycle_eq]
  exact of_notices ((h.reloadSilence n).judged n addr kind (s.judge n addr kind)) rfl

theorem portCycle (n : SlotId) {access : State → State}
    (ha : ∀ {t}, DistinctSubjects t → DistinctSubjects (access t)) : DistinctSubjects (s.portCycle n access) := by
  unfold State.portCycle
  split
  · exact h
  · split
    · exact h
    · exact ha (h.reloadSilence n)

/-- A write pops a notice at most. -/
theorem writePort (n : SlotId) (offset : Nat) (value : Word) : DistinctSubjects (s.writePort n offset value) := by
  unfold State.writePort
  split
  case h_5 =>
    split <;> exact h
  case h_7 => exact h.popNotice n
  all_goals exact h

theorem readPort (n : SlotId) (offset : Nat) : DistinctSubjects (s.readPort n offset) := by
  intro m
  rw [State.queue, notices_readPort]
  exact h m

/-! ### The effects of the commands that can grant, retire or recall -/

section
variable (c : SlotId) (e : CommandEntry) (w : WindowId)

theorem claimEffect (m : Mode) (r : RecordId) : DistinctSubjects (claimEffect c e m r s).1 := by
  unfold Machine.claimEffect
  extract_lets v s1
  split
  · exact grantPass (s := s.fillRecord ..) h v
  · exact grantPass (s := s1) h v

theorem withdrawEffect : DistinctSubjects (withdrawEffect c w s).1 := by
  unfold Machine.withdrawEffect
  split
  · exact h.retireAlone _ none
  · exact grantPass (s := s.setClaim ..) h w

theorem upgradeEffect (r : RecordId) : DistinctSubjects (upgradeEffect c w s r).1 := by
  unfold Machine.upgradeEffect
  extract_lets y
  split
  · exact grantPass (s := s.restartHold ..) h w
  · split
    · exact h
    · exact grantPass (s := s.setClaim ..) h w

theorem transferEffect (r : RecordId) : DistinctSubjects (transferEffect c w s r).1 := by
  unfold Machine.transferEffect
  split
  · exact h
  · exact grant (s := s.retire r) h _

theorem openEffect : DistinctSubjects (s.openEffect w) := by
  unfold State.openEffect
  split
  · exact grantPass (s := s.setWindowState ..) h w
  · exact h

theorem closeEffect : DistinctSubjects (s.closeEffect w) := by
  unfold State.closeEffect
  split
  · exact h.closeOpen w
  · exact h

theorem recallEffect (b : Option SlotId) : DistinctSubjects (recallEffect w b s).1 := by
  unfold Machine.recallEffect
  extract_lets p s1 q
  split
  · exact (h.placeGiven w b).grantPass w
  · exact placeGiven (s := s1.setClaim ..) (h.recallHolds w _) w b

end

/-! ### The commands and their takes (R162) -/

/-- Every command keeps the subjects distinct; the rows named together post nothing. -/
theorem commandOf (i : Instr) (c : SlotId) (e : CommandEntry) : DistinctSubjects (commandOf i c e s).1 := by
  cases i with
  | join => exact answer_keeps h fun _ => postToMaster (s := s.setSlot c _) h _ _ _
  | leave =>
    refine answer_keeps h fun _ => ?_
    dsimp only
    exact h.exit c .left
  | claim =>
    refine answer_keeps h fun _ => ?_
    split
    · exact h
    · refine answer_keeps h fun _ => ?_
      split
      · exact h
      · exact h.claimEffect c e _ _
  | withdraw => exact answer_keeps h fun _ => h.withdrawEffect c _
  | release => exact answer_keeps h fun _ => onHold_keeps h fun r => h.retireAlone r none
  | upgrade => exact answer_keeps h fun _ => onHold_keeps h fun r => h.upgradeEffect c _ r
  | downgrade => exact answer_keeps h fun _ => onHold_keeps h fun r => grantPass (s := s.restartHold ..) h _
  | transfer => exact answer_keeps h fun _ => onHold_keeps h fun r => h.transferEffect _ _ r
  | takeMaster => exact answer_keeps h fun _ => post (s := s.setMaster (some c)) h _ _ _
  | openWindow => exact answer_keeps h fun _ => h.openEffect _
  | closeWindow => exact answer_keeps h fun _ => h.closeEffect _
  | recallWindow => exact answer_keeps h fun _ => h.recallEffect _ _
  | evict =>
    refine answer_keeps h fun _ => ?_
    dsimp only
    exact h.exit _ .evicted
  | handMaster =>
    have hrole : DistinctSubjects (s.setMaster (some (slotField e.param0))) := h
    exact answer_keeps h fun _ => (hrole.post c .role (.role .lost)).post (slotField e.param0) .role (.role .gained)
  | setTiming =>
    have hlimit : DistinctSubjects { s with silenceLimit := e.silenceField } := of_notices h rfl
    refine answer_keeps h fun _ => ?_
    dsimp only
    exact hlimit.reloadAllSilence.selectTick _
  | define =>
    refine answer_keeps h fun _ => ?_
    split
    · exact h
    · exact answer_keeps h fun _ => h
  | renew => exact answer_keeps h fun _ => onHold_keeps h fun _ => h
  | queryWindow | querySlot | undefine | setQuota | setEligible =>
    exact answer_keeps (P := DistinctSubjects) h fun _ => of_notices h rfl
  | _ => exact h

/-- The take itself moves a command and a response, and no notice. -/
theorem takeWhere (isOpcode : BitVec 8 → Bool) (i : Instr) :
    DistinctSubjects (s.takeWhere isOpcode (Machine.commandOf i)) := by
  unfold State.takeWhere
  repeat' split
  · exact h
  · exact h
  · next c e _ _ => exact commandOf (s := s.popCommand c) h i c e
  · exact h

/-- A row that is the take of its own command. -/
theorem of_take {t : State} {i : Instr} (e : Machine.exec i s = .next t)
    (k : ∃ isOpcode, Machine.exec i s = .next (s.takeWhere isOpcode (Machine.commandOf i))) : DistinctSubjects t := by
  obtain ⟨isOpcode, hexec⟩ := k
  exact of_next (hexec.symm.trans e) (h.takeWhere isOpcode i)

/-! ### The step -/

/-- A row that does nothing in some states. -/
theorem ite {t : State} {p : Prop} [Decidable p] (ht : DistinctSubjects t) :
    DistinctSubjects (if p then s else t) := by
  split
  · exact h
  · exact ht

/-- Each row of the table keeps the subjects of every queue distinct. -/
theorem exec {t : State} (i : Instr) (e : exec i s = .next t) : DistinctSubjects t := by
  cases i with
  | join | leave | claim | withdraw | release | renew | upgrade | downgrade | transfer | queryWindow | querySlot
  | takeMaster | define | undefine | openWindow | closeWindow | recallWindow | evict | setQuota | setEligible
  | setTiming | handMaster | unknownOpcode => exact h.of_take e ⟨_, rfl⟩
  | respPop n _ => exact of_next e (h.portCycle n fun ht => ht)
  | notice0Read n => exact of_next e (h.portCycle n fun ht => ht)
  | noticePop n _ => exact of_next e (h.portCycle n fun ht => ht.popNotice n)
  | attnEnWrite n _ => exact of_next e (h.portCycle n fun ht => ht)
  | controlBlockWrite n addr width value =>
    refine of_next e ?_
    split
    · refine h.portCycle n fun ht => ?_
      split
      · exact ht.writePort n _ value
      · exact ht
    · exact h
  | controlBlockRead n addr width =>
    refine of_next e ?_
    split
    · refine h.portCycle n fun ht => ?_
      split
      · exact ht.readPort n _
      · exact ht
    · exact h
  | cycleCheck n addr kind _ => exact of_next e (h.ite (h.checkCycle n addr kind))
  | cycleEnd => exact of_next e (of_notices (t := s.endCycle) h rfl)
  | tick => exact of_next e (h.ite (of_notices (t := s.issueTick) h rfl))
  | claimTableTick =>
    have hdue : DistinctSubjects { s with claimTicksDue := s.claimTicksDue - 1 } := of_notices h rfl
    exact of_next e (h.ite hdue.tickClaims)
  | slotTableTick =>
    have hdue : DistinctSubjects { s with slotTicksDue := s.slotTicksDue - 1 } := of_notices h rfl
    exact of_next e (h.ite hdue.tickSlots)
  | waitTimeout r => exact of_next e (h.lastTick r .waiting)
  | leaseExpiry r => exact of_next e (h.lastTick r .held)
  | graceExpiry r => exact of_next e (h.lastTick r .lapsing)
  | recallLimitExpiry r => exact of_next e (h.lastTick r .recalled)
  | silenceExpiry n => exact of_next e (h.lastSilence n)
  | presRise n =>
    have hline : DistinctSubjects (s.setLine n true) := of_notices h rfl
    exact of_next e (hline.ite (hline.rise n))
  | presFall n =>
    have hline : DistinctSubjects (s.setLine n false) := of_notices h rfl
    exact of_next e (hline.ite (hline.fall n))
  | slotReset n => exact of_next e (h.ite (h.slotReset n))
  | backplaneReset =>
    have hreset : DistinctSubjects s.backplaneReset := fun n => by simp [queue_backplaneReset]
    exact of_next e (h.ite hreset)
  | powerOnReset elig =>
    have hreset : DistinctSubjects (State.powerOn s.presLines elig) := fun n => by simp
    exact of_next e (of_notices (t := { State.powerOn s.presLines elig with pending := s.pending }) hreset rfl)
  | porAsserted =>
    exact of_next e (of_notices (t := { s with porAsserted := true, inHand := none, portAnswer := .idle }) h rfl)

/-- Every step keeps the subjects of every queue distinct. -/
theorem step {t : State} (e : step s = .next t) : DistinctSubjects t := by
  cases hp : s.pending with
  | nil =>
    rw [step_of_idle hp] at e
    exact of_next e h.refclk
  | cons i rest =>
    rw [step_of_pending hp] at e
    have hrest : DistinctSubjects { s with pending := rest } := of_notices h rfl
    exact hrest.exec i e

end

end DistinctSubjects

/-- Settles O11: by where a post's subject stands in the queue, row by row for the step, and by the count of the subject
codes. -/
theorem postingFoldsOrJoins : Obligations.PostingFoldsOrJoins := by
  unfold Obligations.PostingFoldsOrJoins
  refine ⟨fun s n x b => ⟨fun ha => if_pos ha, fun ha => ?posted⟩, fun s t h e => DistinctSubjects.step h e,
    fun q => length_le_of_subjects_nodup, fun s n => ?status, fun s t n value hpor ha e => ?popped⟩
  case posted =>
    refine ⟨fun hnew => ?_, fun front k back hq hk hfront => ?_, fun m hm => ?_, post_tables s n x b,
      post_beside s n x b⟩
    · rw [queue_post_self x b ha, enqueueNotice_joins x b hnew]
    · rw [queue_post_self x b ha, hq, enqueueNotice_folds x b hk hfront]
    · rw [queue_post, if_neg fun k => hm k.1]
  case status =>
    obtain ⟨-, -, hnotices, -⟩ := status_fields s n
    exact hnotices
  case popped =>
    have hpop := (exec_noticePop hpor ha value).symm.trans e
    exact of_next (P := fun t => t.queue n = (s.queue n).tail) hpop (by simp)

end Sys2Proof.Machine
end

section
/-! SUPPORT. The arbiter's choice: the first slot after the pointer that may be taken from (R161). -/

namespace Sys2Proof.Machine

/-- A search in the arbiter's order gives the first slot after the pointer that passes. -/
theorem find?_arbiterOrder_eq_some {p : SlotId → Bool} {pointer c : SlotId} :
    (arbiterOrder pointer).find? p = some c ↔
      p c = true ∧ ∀ i : SlotId, i < c - (pointer + 1) → p (pointer + 1 + i) = false := by
  have hfirst : (arbiterOrder pointer).find? p =
      (Fin.find? fun i => p (pointer + 1 + i)).map (pointer + 1 + ·) := by
    rw [arbiterOrder, List.find?_map, Fin.find?_eq_find?_finRange]
    rfl
  rw [hfirst, Option.map_eq_some_iff]
  constructor
  · rintro ⟨i, hi, rfl⟩
    rw [add_sub_cancel_left]
    exact Fin.find?_eq_some_iff.mp hi
  · rintro ⟨hc, hbefore⟩
    exact ⟨c - (pointer + 1), Fin.find?_eq_some_iff.mpr ⟨by rwa [add_sub_cancel], hbefore⟩, add_sub_cancel ..⟩

/-- The arbiter considers every slot. -/
theorem mem_arbiterOrder (pointer n : SlotId) : n ∈ arbiterOrder pointer :=
  List.mem_map.mpr ⟨n - (pointer + 1), mem_allSlots _, add_sub_cancel ..⟩

section
variable {s : State} {c : SlotId} {e : CommandEntry}

theorem mayTake_iff : s.mayTake c = true ↔ (s.port c).commands ≠ [] ∧ (s.port c).responses.length < 4 := by
  simp only [State.mayTake, Bool.and_eq_true, Bool.not_eq_true', List.isEmpty_eq_false_iff, decide_eq_true_eq]
  exact Iff.rfl

/-- The take is of the head entry of the slot that the search finds. -/
theorem nextTake_eq_some :
    s.nextTake = some (c, e) ↔
      (arbiterOrder s.pointer).find? s.mayTake = some c ∧ (s.port c).commands.head? = some e := by
  unfold State.nextTake
  split
  · next hnone => simp [hnone]
  · next d hd =>
    rw [hd, Option.some_inj]
    split
    · next hnil =>
      refine ⟨nofun, ?_⟩
      rintro ⟨rfl, hhead⟩
      simp [hnil] at hhead
    · next x back hcons =>
      constructor
      · rintro ⟨⟩
        exact ⟨rfl, by simp [hcons]⟩
      · rintro ⟨rfl, hhead⟩
        rw [hcons] at hhead
        cases hhead
        rfl

/-- A slot that may be taken from has a head entry, so there is no take only where no slot is found. -/
theorem nextTake_eq_none : s.nextTake = none ↔ ∀ n, s.mayTake n = false := by
  have hsearch : (arbiterOrder s.pointer).find? s.mayTake = none ↔ ∀ n, s.mayTake n = false := by
    simp [List.find?_eq_none, mem_arbiterOrder]
  rw [← hsearch]
  constructor
  · intro hnone
    cases hfound : (arbiterOrder s.pointer).find? s.mayTake with
    | none => rfl
    | some c =>
      obtain ⟨hcommands, -⟩ := mayTake_iff.mp (List.find?_some hfound)
      obtain ⟨e, back, hcons⟩ := List.exists_cons_of_ne_nil hcommands
      have htake : s.nextTake = some (c, e) := nextTake_eq_some.mpr ⟨hfound, by simp [hcons]⟩
      exact absurd (hnone.symm.trans htake) nofun
  · intro hnone
    simp only [State.nextTake, hnone]

end

/-- Settles O7: the arbiter searches its order for the first slot that may be taken from. -/
theorem arbiterTakesFirstEligible : Obligations.ArbiterTakesFirstEligible := by
  unfold Obligations.ArbiterTakesFirstEligible
  intro s
  refine ⟨fun n => mayTake_iff, nextTake_eq_none, fun c e => ?_⟩
  rw [nextTake_eq_some, find?_arbiterOrder_eq_some, and_assoc, and_comm (b := _ = some e)]

end Sys2Proof.Machine
end

section
/-! SUPPORT. What a command leaves alone of its take: the FIFOs, the pointer and the waiting commands; so every take
pushes exactly one response (R161, R162). -/

namespace Sys2Proof.Machine

/-! ### The effects of the commands on claims, holds and windows -/

section
variable (s : State) (c : SlotId) (w : WindowId)

theorem withdrawEffect_beside : SameBesideClaims s (withdrawEffect c w s).1 := by
  unfold withdrawEffect
  split
  · exact retireAlone_beside ..
  · exact (setClaim_beside ..).trans (grantPass_beside ..)

theorem upgradeEffect_beside (r : RecordId) : SameBesideClaims s (upgradeEffect c w s r).1 := by
  unfold upgradeEffect
  extract_lets y
  split
  · exact (setRecord_beside ..).trans (grantPass_beside ..)
  · split
    · exact .refl s
    · exact (setClaim_beside ..).trans (grantPass_beside ..)

theorem transferEffect_beside (r : RecordId) : SameBesideClaims s (transferEffect c w s r).1 := by
  unfold transferEffect
  split
  · exact .refl s
  · exact (retire_beside ..).trans (grant_beside ..)

theorem openEffect_beside : SameBesideClaims s (s.openEffect w) := by
  unfold State.openEffect
  split
  · exact (setWindow_beside ..).trans (grantPass_beside ..)
  · exact .refl s

theorem closeEffect_beside : SameBesideClaims s (s.closeEffect w) := by
  unfold State.closeEffect
  split
  · exact closeOpen_beside s w
  · exact .refl s

theorem recallEffect_beside (b : Option SlotId) : SameBesideClaims s (recallEffect w b s).1 := by
  unfold recallEffect
  extract_lets p s1 q
  split
  · exact (placeGiven_beside s w b).trans (grantPass_beside ..)
  · exact ((recallHolds_beside ..).trans (setClaim_beside ..)).trans (placeGiven_beside ..)

end

/-! ### The FIFOs, the pointer and the waiting commands -/

/-- Both FIFOs of every slot, the pointer and the waiting commands are the same. -/
structure FifosKept (s t : State) : Prop where
  pointer : t.pointer = s.pointer
  commands : ∀ n, (t.port n).commands = (s.port n).commands
  responses : ∀ n, (t.port n).responses = (s.port n).responses
  pending : t.pending = s.pending

section
variable {s t u : State}

theorem FifosKept.refl (s : State) : FifosKept s s := ⟨rfl, fun _ => rfl, fun _ => rfl, rfl⟩

theorem FifosKept.trans (h : FifosKept s t) (k : FifosKept t u) : FifosKept s u :=
  ⟨k.pointer.trans h.pointer, fun n => (k.commands n).trans (h.commands n),
    fun n => (k.responses n).trans (h.responses n), k.pending.trans h.pending⟩

/-- The Claim Table's procedures and posts change no port. -/
theorem FifosKept.of_beside (h : SameBesideClaims s t) : FifosKept s t :=
  ⟨h.pointer, fun n => by rw [h.port], fun n => by rw [h.port], h.outside.pending⟩

theorem FifosKept.of_ports (hports : t.ports = s.ports) (hpointer : t.pointer = s.pointer)
    (hpending : t.pending = s.pending) : FifosKept s t :=
  ⟨hpointer, fun n => by simp only [State.port, hports], fun n => by simp only [State.port, hports], hpending⟩

/-- A slot that leaves, falls silent or is evicted keeps its FIFOs (R135 step 3, R166). -/
theorem exit_fifosKept (s : State) (n : SlotId) {reason : ExitReason}
    (hr : reason = .left ∨ reason = .silent ∨ reason = .evicted) : FifosKept s (s.exit n reason) := by
  have hne : reason ≠ .none := by rintro rfl; simp at hr
  have hexit : Stopped n reason (s.exitRecords n) (s.exit n reason) := exit_stopped hne
  have hown : (s.exit n reason).port n = { (s.exitRecords n).port n with holding := 0 } := by
    rw [hexit.port]
    rcases hr with rfl | rfl | rfl <;> rfl
  refine (FifosKept.of_beside (exitRecords_beside s n)).trans
    ⟨hexit.pointer, fun m => ?_, fun m => ?_, hexit.outside.pending⟩
  all_goals
    by_cases hm : m = n
    · rw [hm, hown]
    · rw [hexit.otherPorts m hm]

theorem selectTick_fifosKept (s : State) (select : Fin 4) : FifosKept s (s.selectTick select) := by
  rw [selectTick_eq]
  exact .of_ports rfl rfl rfl

theorem reloadAllSilence_fifosKept (s : State) : FifosKept s s.reloadAllSilence := by
  obtain ⟨slots, heq⟩ := (reloadAllSilence_revised s).rest
  rw [heq]
  exact .of_ports rfl rfl rfl

/-- Every command leaves the FIFOs, the pointer and the waiting commands alone: the take moves the entry and the
response (R162). -/
theorem commandOf_fifosKept (i : Instr) (c : SlotId) (e : CommandEntry) (s : State) :
    FifosKept s (commandOf i c e s).1 := by
  have hsame : FifosKept s s := .refl s
  cases i with
  | join =>
    have hslot (x : SlotRecord) : FifosKept s (s.setSlot c x) := .of_ports rfl rfl rfl
    exact answer_keeps (P := FifosKept s) hsame fun _ => (hslot _).trans (.of_beside (reportSlotChange_beside ..))
  | leave =>
    refine answer_keeps (P := FifosKept s) hsame fun _ => ?_
    dsimp only
    exact exit_fifosKept s c (.inl rfl)
  | claim =>
    refine answer_keeps (P := FifosKept s) hsame fun _ => ?_
    split
    · exact hsame
    · refine answer_keeps (P := FifosKept s) hsame fun _ => ?_
      split
      · exact hsame
      · exact .of_beside (claimEffect_beside ..)
  | withdraw => exact answer_keeps (P := FifosKept s) hsame fun _ => .of_beside (withdrawEffect_beside ..)
  | release => exact answer_keeps hsame fun _ => onHold_keeps hsame fun _ => .of_beside (retireAlone_beside ..)
  | renew => exact answer_keeps hsame fun _ => onHold_keeps hsame fun _ => .of_beside (setRecord_beside ..)
  | upgrade => exact answer_keeps hsame fun _ => onHold_keeps hsame fun _ => .of_beside (upgradeEffect_beside ..)
  | downgrade =>
    exact answer_keeps hsame fun _ => onHold_keeps hsame fun _ =>
      .of_beside ((setRecord_beside ..).trans (grantPass_beside ..))
  | transfer => exact answer_keeps hsame fun _ => onHold_keeps hsame fun _ => .of_beside (transferEffect_beside ..)
  | takeMaster =>
    have hrole : FifosKept s (s.setMaster (some c)) := .of_ports rfl rfl rfl
    exact answer_keeps (P := FifosKept s) hsame fun _ => hrole.trans (.of_beside (post_beside ..))
  | define =>
    refine answer_keeps (P := FifosKept s) hsame fun _ => ?_
    split
    · exact hsame
    · exact answer_keeps (P := FifosKept s) hsame fun _ => .of_beside (setWindow_beside ..)
  | undefine => exact answer_keeps (P := FifosKept s) hsame fun _ => .of_beside (setWindow_beside ..)
  | openWindow => exact answer_keeps (P := FifosKept s) hsame fun _ => .of_beside (openEffect_beside ..)
  | closeWindow => exact answer_keeps (P := FifosKept s) hsame fun _ => .of_beside (closeEffect_beside ..)
  | recallWindow => exact answer_keeps (P := FifosKept s) hsame fun _ => .of_beside (recallEffect_beside ..)
  | evict =>
    refine answer_keeps (P := FifosKept s) hsame fun _ => ?_
    dsimp only
    exact exit_fifosKept s _ (.inr (.inr rfl))
  | setTiming =>
    refine answer_keeps (P := FifosKept s) hsame fun _ => ?_
    dsimp only
    have hlimit : FifosKept s { s with silenceLimit := e.silenceField } := .of_ports rfl rfl rfl
    exact (hlimit.trans (reloadAllSilence_fifosKept _)).trans (selectTick_fifosKept ..)
  | handMaster =>
    have hrole (m : Option SlotId) : FifosKept s (s.setMaster m) := .of_ports rfl rfl rfl
    exact answer_keeps (P := FifosKept s) hsame fun _ =>
      (hrole _).trans (.of_beside ((post_beside ..).trans (post_beside ..)))
  | setQuota | setEligible | queryWindow | querySlot =>
    exact answer_keeps (P := FifosKept s) hsame fun _ => .of_ports rfl rfl rfl
  | _ => exact hsame

end

/-! ### The take -/

section
variable {s m : State} {c : SlotId} {e : CommandEntry} {y : Reply}

/-- A reply is pushed to the FIFO that the entry came from, and no other FIFO is touched (R162). -/
theorem fifos_pushResponse (h : FifosKept (s.popCommand c) m) :
    (m.pushResponse c e y).pointer = c ∧
      ((m.pushResponse c e y).port c).commands = (s.port c).commands.tail ∧
      ((m.pushResponse c e y).port c).responses = (s.port c).responses ++ [responseTo e y] ∧
      ∀ n, n ≠ c → ((m.pushResponse c e y).port n).commands = (s.port n).commands ∧
        ((m.pushResponse c e y).port n).responses = (s.port n).responses := by
  refine ⟨h.pointer, ?_, ?_, fun n hn => ?_⟩
  · simp [h.commands]
  · simp [h.responses]
  · simp [h.commands, h.responses, hn]

/-- The arbiter reaches one entry, so a row of another command takes nothing (R161). -/
theorem exec_of_other_opcode {p : Instr × BitVec 8} (hp : p ∈ takeRows) (hn : s.nextTake = some (c, e))
    (hop : e.opcode ≠ p.2) : exec p.1 s = .next s := by
  rw [exec_takeRow p hp s]
  refine runCommand_of_not_takes ?_ _
  rintro c' e' ⟨-, hn', hop'⟩
  obtain ⟨-, rfl⟩ := Prod.mk.inj (Option.some.inj (hn.symm.trans hn'))
  exact hop hop'

end

/-- Settles O8: the take moves the entry and the response, and its command touches no FIFO. -/
theorem takesAnswerExactlyOnce : Obligations.TakesAnswerExactlyOnce := by
  unfold Obligations.TakesAnswerExactlyOnce
  intro s c e hpor hn p hp
  exact ⟨exec_of_other_opcode hp hn, fun hop => ⟨_, _, exec_of_takes hp ⟨hpor, hn, hop⟩,
    fifos_pushResponse (commandOf_fifosKept p.1 c e (s.popCommand c))⟩⟩

end Sys2Proof.Machine
end

section
/-! SUPPORT. Every row answers a next state and keeps the waiting commands (R162, R165). -/

namespace Sys2Proof.Machine

/-! ### The shared operations keep the waiting commands -/

section
variable (s : State) (n : SlotId)

theorem pending_takeWhere (isOpcode : BitVec 8 → Bool) (i : Instr) :
    (s.takeWhere isOpcode (commandOf i)).pending = s.pending := by
  unfold State.takeWhere
  repeat' split
  · rfl
  · rfl
  · next c e _ _ => exact (commandOf_fifosKept i c e (s.popCommand c)).pending
  · rfl

/-- A row that does nothing in some states. -/
theorem pending_ite {s t : State} {p : Prop} [Decidable p] (h : t.pending = s.pending) :
    (if p then s else t).pending = s.pending := by
  split
  · rfl
  · exact h

theorem pending_reloadSilence : (s.reloadSilence n).pending = s.pending := by
  rw [reloadSilence_eq]
  rfl

theorem pending_portCycle {access : State → State} (h : ∀ t, (access t).pending = t.pending) :
    (s.portCycle n access).pending = s.pending := by
  unfold State.portCycle
  repeat' split
  · rfl
  · rfl
  · exact (h _).trans (pending_reloadSilence s n)

theorem pending_writePort (offset : Nat) (value : Word) : (s.writePort n offset value).pending = s.pending := by
  unfold State.writePort
  repeat' split
  all_goals rfl

theorem pending_readPort (offset : Nat) : (s.readPort n offset).pending = s.pending := by
  unfold State.readPort
  split <;> rfl

theorem pending_lastTick (r : RecordId) (phase : ClaimPhase) : (s.lastTick r phase).pending = s.pending := by
  unfold State.lastTick
  extract_lets c
  repeat' split
  · exact (expire_beside s r).outside.pending
  · exact ((expire_beside s r).trans (followUps_beside ..)).outside.pending
  · rfl

theorem pending_exit {reason : ExitReason} (hr : reason ≠ .none) : (s.exit n reason).pending = s.pending :=
  (exit_stopped hr).outside.pending.trans (exitRecords_beside s n).outside.pending

theorem pending_tickSlot : (s.tickSlot n).pending = s.pending := by
  unfold State.tickSlot
  split
  · split
    · exact pending_exit s n (by decide)
    · rfl
  · rfl

theorem pending_tickSlots : s.tickSlots.pending = s.pending := by
  unfold State.tickSlots
  exact pending_ite (foldl_keeps (P := fun t => t.pending = s.pending)
    (fun t m ht => (pending_tickSlot t m).trans ht) allSlots s rfl)

theorem pending_lastSilence : (s.lastSilence n).pending = s.pending := by
  unfold State.lastSilence
  split
  · exact pending_exit s n (by decide)
  · rfl

theorem pending_rise : (s.rise n).pending = s.pending := by
  by_cases h : (s.slot n).state = .absent
  · exact (rise_frame h).outside.pending
  · exact congrArg State.pending (if_neg h)

theorem pending_fall : (s.fall n).pending = s.pending := by
  cases h : (s.slot n).state with
  | active =>
    rw [fall_active h]
    exact pending_exit s n (by decide)
  | present =>
    rw [fall_present h]
    exact (stopAndReport_stopped (by decide)).outside.pending
  | absent => rw [fall_absent h]

theorem pending_slotReset : (s.slotReset n).pending = s.pending := by
  cases h : (s.slot n).state with
  | active =>
    rw [slotReset_active h]
    exact pending_exit s n (by decide)
  | present =>
    rw [slotReset_present h]
    exact (stopAndReport_stopped (by decide)).outside.pending
  | absent => rw [slotReset_absent h]

end

/-! ### The rows -/

/-- A row that is the take of its own command. -/
theorem answersNext_of_take {s : State} {i : Instr}
    (h : ∃ isOpcode, exec i s = .next (s.takeWhere isOpcode (commandOf i))) :
    ∃ t, exec i s = .next t ∧ t.pending = s.pending := by
  obtain ⟨isOpcode, hexec⟩ := h
  exact ⟨_, hexec, pending_takeWhere s isOpcode i⟩

/-- Settles O3: row by row; no row faults, and none touches the waiting commands. -/
theorem everyCommandAnswersNext : Obligations.EveryCommandAnswersNext := by
  unfold Obligations.EveryCommandAnswersNext
  intro s i
  cases i with
  | join | leave | claim | withdraw | release | renew | upgrade | downgrade | transfer | queryWindow | querySlot
  | takeMaster | define | undefine | openWindow | closeWindow | recallWindow | evict | setQuota | setEligible
  | setTiming | handMaster | unknownOpcode => exact answersNext_of_take ⟨_, rfl⟩
  | respPop n | notice0Read n | noticePop n | attnEnWrite n => exact ⟨_, rfl, pending_portCycle s n fun _ => rfl⟩
  | controlBlockWrite n addr width value =>
    refine ⟨_, rfl, ?_⟩
    split
    · refine pending_portCycle s n fun t => ?_
      split
      · exact pending_writePort ..
      · rfl
    · rfl
  | controlBlockRead n addr width =>
    refine ⟨_, rfl, ?_⟩
    split
    · refine pending_portCycle s n fun t => ?_
      split
      · exact pending_readPort ..
      · rfl
    · rfl
  | cycleCheck n addr kind => exact ⟨_, rfl, pending_ite (checkCycle_frame s n addr kind).pending⟩
  | cycleEnd => exact ⟨_, rfl, rfl⟩
  | tick => exact ⟨_, rfl, pending_ite rfl⟩
  | claimTableTick => exact ⟨_, rfl, pending_ite (tickClaims_beside _).outside.pending⟩
  | slotTableTick => exact ⟨_, rfl, pending_ite (pending_tickSlots _)⟩
  | waitTimeout r | leaseExpiry r | graceExpiry r | recallLimitExpiry r => exact ⟨_, rfl, pending_lastTick s r _⟩
  | silenceExpiry n => exact ⟨_, rfl, pending_lastSilence s n⟩
  | presRise n =>
    refine ⟨_, rfl, ?_⟩
    split
    · rfl
    · exact pending_rise (s.setLine n true) n
  | presFall n =>
    refine ⟨_, rfl, ?_⟩
    split
    · rfl
    · exact pending_fall (s.setLine n false) n
  | slotReset n => exact ⟨_, rfl, pending_ite (pending_slotReset s n)⟩
  | backplaneReset => exact ⟨_, rfl, pending_ite rfl⟩
  | powerOnReset => exact ⟨_, rfl, rfl⟩
  | porAsserted => exact ⟨_, rfl, rfl⟩

end Sys2Proof.Machine
end

section
/-! SUPPORT. A command is done or queued, or its refusal changes nothing (R165). -/

namespace Sys2Proof.Machine

/-- The answer of a command in state `s`: done, queued, or a refusal with result fields 0 that leaves `s` as it is. -/
def DoneOrRefused (s : State) (a : State × Reply) : Prop :=
  a.2.outcome = .ok ∨ a.2.outcome = .queued ∨ (a.1 = s ∧ a.2 = Reply.refusal a.2.outcome)

section
variable {s : State}

theorem DoneOrRefused.ok {a : State × Reply} (h : a.2.outcome = .ok) : DoneOrRefused s a := .inl h

theorem DoneOrRefused.queued {a : State × Reply} (h : a.2.outcome = .queued) : DoneOrRefused s a := .inr (.inl h)

theorem DoneOrRefused.refused (o : OutcomeCode) : DoneOrRefused s (s, Reply.refusal o) := .inr (.inr ⟨rfl, rfl⟩)

/-- A check that fails is a refusal, and the effect is had only where none fails. -/
theorem DoneOrRefused.answer {checks : List (Bool × OutcomeCode)} {effect : State × Reply}
    (h : DoneOrRefused s effect) : DoneOrRefused s (s.answer checks effect) := by
  obtain ⟨o, -, hrefused⟩ | ⟨-, hpassed⟩ := answer_cases s checks effect
  · rw [hrefused]
    exact .refused o
  · rwa [hpassed]

theorem DoneOrRefused.onHold {c : SlotId} {w : WindowId} {effect : RecordId → State × Reply}
    (h : ∀ r, DoneOrRefused s (effect r)) : DoneOrRefused s (s.onHold c w effect) := by
  unfold State.onHold
  split
  · exact .refused _
  · exact h _

theorem claimEffect_doneOrRefused (c : SlotId) (e : CommandEntry) (m : Mode) (r : RecordId) :
    DoneOrRefused s (claimEffect c e m r s) := by
  unfold claimEffect
  extract_lets w s1
  split
  · exact .ok rfl
  · exact .queued rfl

theorem withdrawEffect_doneOrRefused (c : SlotId) (w : WindowId) : DoneOrRefused s (withdrawEffect c w s) := by
  unfold withdrawEffect
  split <;> exact .ok rfl

theorem upgradeEffect_doneOrRefused (c : SlotId) (w : WindowId) (r : RecordId) :
    DoneOrRefused s (upgradeEffect c w s r) := by
  unfold upgradeEffect
  extract_lets y
  split
  · exact .ok rfl
  · split <;> exact .queued rfl

theorem transferEffect_doneOrRefused (t : SlotId) (w : WindowId) (r : RecordId) :
    DoneOrRefused s (transferEffect t w s r) := by
  unfold transferEffect
  split
  · exact .refused _
  · exact .ok rfl

theorem recallEffect_doneOrRefused (w : WindowId) (b : Option SlotId) : DoneOrRefused s (recallEffect w b s) := by
  unfold recallEffect
  extract_lets p s1 q
  split <;> exact .ok rfl

/-- Every command of the catalogue, by its checks and then its effect. -/
theorem commandOf_doneOrRefused (i : Instr) (c : SlotId) (e : CommandEntry) :
    DoneOrRefused s (commandOf i c e s) := by
  cases i with
  | claim =>
    refine .answer ?_
    split
    · exact .refused _
    · refine .answer ?_
      split
      · exact .refused _
      · exact claimEffect_doneOrRefused ..
  | define =>
    refine .answer ?_
    split
    · exact .refused _
    · exact .answer (.ok rfl)
  | withdraw => exact .answer (withdrawEffect_doneOrRefused ..)
  | recallWindow => exact .answer (recallEffect_doneOrRefused ..)
  | upgrade => exact .answer (.onHold fun r => upgradeEffect_doneOrRefused c _ r)
  | transfer => exact .answer (.onHold fun r => transferEffect_doneOrRefused _ _ r)
  | release | renew | downgrade => exact .answer (.onHold fun _ => .ok rfl)
  | queryWindow =>
    refine .answer (.ok ?_)
    unfold windowView
    split <;> rfl
  | join | leave | querySlot | takeMaster | undefine | openWindow | closeWindow | evict | setQuota | setEligible
  | setTiming | handMaster => exact .answer (.ok rfl)
  | _ => exact .refused .badOpcode

end

/-- The catalogue's commands are those of the take rows (10.7). -/
theorem commandTable_eq : commandTable = takeRows.map fun p => (p.2, commandOf p.1) := rfl

/-- Settles O9: by the checks of each command, and what its effect answers. -/
theorem refusalsChangeNothing : Obligations.RefusalsChangeNothing := by
  unfold Obligations.RefusalsChangeNothing
  intro p hp c e s
  rw [commandTable_eq, List.mem_map] at hp
  obtain ⟨row, -, rfl⟩ := hp
  exact commandOf_doneOrRefused row.1 c e

end Sys2Proof.Machine
end

section
/-! SUPPORT. A write of the control block, register by register, and the writes refused (R157 to R160). -/

namespace Sys2Proof.Machine

/-- What a control-block write does, at any address of the block and of any width (R157). -/
def State.writeCycle (s : State) (n : SlotId) (addr : Word) (width : Nat) (value : Word) : State :=
  s.portCycle n fun s => if accessAligned addr width then s.writePort n (portOffset addr) value else s.refuseAccess

/-- A control-block cycle of slot `n` is done with this answer, and leaves this port and the queue as it was. -/
abbrev PortLeft (s t : State) (n : SlotId) (a : PortAnswer) (x : SlotPort) : Prop :=
  PortCycleDone s t n a ∧ t.port n = x ∧ t.queue n = s.queue n

section
variable {s : State} {n : SlotId} {addr value : Word} {width : Nat}

theorem exec_controlBlockWrite (h : inControlBlock addr = true) :
    exec (.controlBlockWrite n addr width value) s = .next (s.writeCycle n addr width value) :=
  congrArg Host.Outcome.next (if_pos h)

/-- A refused cycle of a slot that is not ABSENT leaves the port as it was. -/
theorem portLeft_refused (s : State) (n : SlotId) :
    PortLeft s (s.reloadSilence n).refuseAccess n .refused (s.port n) :=
  ⟨portCycleDone_reload s n _, port_reloadSilence .., queue_reloadSilence ..⟩

/-- An ABSENT slot's write is refused (R157). -/
theorem writeCycle_absent (hpor : s.porAsserted = false) (ha : (s.slot n).state = .absent) :
    PortLeft s (s.writeCycle n addr width value) n .refused (s.port n) := by
  rw [State.writeCycle, portCycle_absent hpor ha]
  exact ⟨portCycleDone_absent ha _, rfl, rfl⟩

section
variable (hpor : s.porAsserted = false) (ha : (s.slot n).state ≠ .absent)
include hpor ha

/-- A write of another width or alignment is refused (R157). -/
theorem writeCycle_misaligned (h : width ≠ 32 ∨ addr.toNat % 4 ≠ 0) :
    PortLeft s (s.writeCycle n addr width value) n .refused (s.port n) := by
  have hbad : accessAligned addr width ≠ true := by
    simpa only [accessAligned, ne_eq, Bool.and_eq_true, decide_eq_true_eq, not_and_or] using h
  have hrefused : s.writeCycle n addr width value = (s.reloadSilence n).refuseAccess :=
    (portCycle_taken hpor ha _).trans (if_neg hbad)
  rw [hrefused]
  exact portLeft_refused s n

variable {offset : Nat} (haddr : addr.toNat % 4 = 0 ∧ portOffset addr = offset)
include haddr

theorem writeCycle_aligned : s.writeCycle n addr 32 value = (s.reloadSilence n).writePort n offset value := by
  simp [State.writeCycle, portCycle_taken hpor ha, accessAligned, haddr.1, haddr.2]

/-- A register that is written through the port of its slot. -/
theorem writeCycle_port (f : SlotPort → SlotPort)
    (h : (s.reloadSilence n).writePort n offset value =
      ((s.reloadSilence n).setPort n (f ((s.reloadSilence n).port n))).acceptAccess 0) :
    PortLeft s (s.writeCycle n addr 32 value) n (.accepted 0) (f (s.port n)) := by
  rw [writeCycle_aligned hpor ha haddr, h, port_reloadSilence]
  exact ⟨(portCycleDone_reload s n _).setPort _, (State.port_setPort _ n _ n).trans (if_pos rfl),
    queue_reloadSilence ..⟩

/-- An offset at which nothing is written. -/
theorem writeCycle_refused
    (h : (s.reloadSilence n).writePort n offset value = (s.reloadSilence n).refuseAccess) :
    PortLeft s (s.writeCycle n addr 32 value) n .refused (s.port n) := by
  rw [writeCycle_aligned hpor ha haddr, h]
  exact portLeft_refused s n

end

/-- The command FIFO is full at four entries (R160). -/
theorem commandsFull_iff : s.commandsFull n = true ↔ 4 ≤ (s.port n).commands.length := decide_eq_true_iff

/-- The command FIFO with the entry that a write to COMMAND pushes (R160). -/
def SlotPort.withCommand (p : SlotPort) (value : Word) : SlotPort :=
  { p with
    commands := p.commands ++
      [{ opcode := lowByte value, tag := value.extractLsb' 8 8, param0 := p.param0, param1 := p.param1,
         param2 := p.param2 }] }

/-- A write to COMMAND pushes its entry where there is room (R160). -/
theorem writePort_command (h : (s.port n).commands.length < 4) :
    s.writePort n 0x14 value = (s.setPort n ((s.port n).withCommand value)).acceptAccess 0 :=
  if_neg fun hfull => absurd (commandsFull_iff.mp hfull) (Nat.not_le.mpr h)

theorem writePort_command_full (h : 4 ≤ (s.port n).commands.length) :
    s.writePort n 0x14 value = s.refuseAccess := if_pos (commandsFull_iff.mpr h)

end

/-- Settles O42: register by register; the parameters and COMMAND are written through the slot's port, and three
registers act as their own rows. -/
theorem controlBlockWrites : Obligations.ControlBlockWrites := by
  unfold Obligations.ControlBlockWrites
  intro s n addr value width hpor hin
  refine ⟨_, exec_controlBlockWrite hin, writeCycle_absent hpor, fun ha => ⟨writeCycle_misaligned hpor ha, ?_⟩⟩
  rintro rfl
  refine ⟨?param0, ?param1, ?param2, ?command, ?commandFull, ?attnEn, ?respPop, ?noticePop, ?refused⟩
  case param0 =>
    rintro rfl
    exact writeCycle_port (offset := 0x08) hpor ha (by decide) (fun p => { p with param0 := value }) rfl
  case param1 =>
    rintro rfl
    exact writeCycle_port (offset := 0x0C) hpor ha (by decide) (fun p => { p with param1 := value }) rfl
  case param2 =>
    rintro rfl
    exact writeCycle_port (offset := 0x10) hpor ha (by decide) (fun p => { p with param2 := value }) rfl
  case command =>
    rintro rfl hroom
    rw [← port_reloadSilence s n n] at hroom
    exact writeCycle_port (offset := 0x14) hpor ha (by decide) (SlotPort.withCommand · value)
      (writePort_command hroom)
  case commandFull =>
    rintro rfl hfull
    rw [← port_reloadSilence s n n] at hfull
    exact writeCycle_refused (offset := 0x14) hpor ha (by decide) (writePort_command_full hfull)
  case attnEn =>
    rintro rfl
    rw [exec_attnEnWrite hpor ha, writeCycle_aligned (offset := 0x04) hpor ha (by decide)]
    rfl
  case respPop =>
    rintro rfl
    rw [exec_respPop hpor ha, writeCycle_aligned (offset := 0x24) hpor ha (by decide)]
    rfl
  case noticePop =>
    rintro rfl
    rw [exec_noticePop hpor ha, writeCycle_aligned (offset := 0x30) hpor ha (by decide)]
    rfl
  case refused =>
    intro h
    have hat (addr : Word) (offset : Nat) :=
      writeCycle_refused (s := s) (n := n) (addr := addr) (value := value) (offset := offset) hpor ha
    simp only [List.mem_cons, List.not_mem_nil, or_false] at h
    rcases h with rfl | rfl | rfl | rfl | rfl | rfl | rfl | rfl | rfl
    · exact hat _ 0x00 (by decide) rfl
    · exact hat _ 0x18 (by decide) rfl
    · exact hat _ 0x1C (by decide) rfl
    · exact hat _ 0x20 (by decide) rfl
    · exact hat _ 0x28 (by decide) rfl
    · exact hat _ 0x2C (by decide) rfl
    · exact hat _ 0x34 (by decide) rfl
    · exact hat _ 0x38 (by decide) rfl
    · exact hat _ 0x3C (by decide) rfl

end Sys2Proof.Machine
end

section
/-! SUPPORT. The tie of a step to the command at the front of the queue (the queue is the model's: log entry 11). -/

namespace Sys2Proof.Machine

/-- Settles O1: the step lemma of a waiting command, at a queue written out; the rest replaces the whole queue. -/
theorem stepRunsFrontCommand : Obligations.StepRunsFrontCommand := by
  unfold Obligations.StepRunsFrontCommand
  intro s i rest
  have hfront : ({ s with pending := i :: rest } : State).pending = i :: rest := rfl
  exact step_of_pending hfront

end Sys2Proof.Machine
end
